-- ==== Sys2Proof/Word.lean ====
section
/-! DEFINITION. The widths of the machine: a byte is 8 bits, and addresses, X, SP, PC and D are
16 bits (00_scope.md R4, 10_state.md R20 to R26, 20_memory.md R50). -/

namespace Sys2Proof

/-- An 8-bit value: one byte of memory, accumulator A or B (R20, R21, R50). -/
abbrev Byte := BitVec 8

/-- A 16-bit value: an address, X, SP, PC or D (R22 to R26, R50). -/
abbrev Word := BitVec 16

end Sys2Proof
end

