-- ==== Sys2Proof/Machine/Bits.lean ====
section
/-! DEFINITION. Byte order, widening and slices (00_scope.md R5, 20_memory.md R52). -/

namespace Sys2Proof

/-- `v[15:8]`. -/
def hiByte (v : Word) : Byte := v.extractLsb' 8 8

/-- `v[7:0]`. -/
def loByte (v : Word) : Byte := v.extractLsb' 0 8

/-- `h ‖ l`, the first byte the most significant (R5, R52). -/
def join (h l : Byte) : Word := h ++ l

/-- `zext_16(v)` (R5). -/
def zext16 (v : Byte) : Word := v.setWidth 16

/-- `sext_16(v)` (R5): the top bit is copied. -/
def sext16 (v : Byte) : Word := v.signExtend 16

end Sys2Proof
end

