-- ==== Sys2Proof/Syntax.lean ====
section
/-! DEFINITION. The instructions: one constructor for each of the 220 assigned opcodes of TABLE 8
(30_encoding.md R90; spec/opcode_table.json). A constructor carries its operand field as the format
lays it out (R81): a byte for IMMED8, DIR, INDXD and REL, two bytes for IMMED16 and EXTND, nothing
for INHER. A mnemonic that has several addressing modes has one constructor per mode, with the
suffix Imm, Dir, Ind or Ext. -/

namespace Sys2Proof

/-- The addressing modes of the MODE column (NOTE 1; R81). -/
inductive Mode where
  | inher
  | immed
  | dir
  | indxd
  | extnd
  | rel
  deriving DecidableEq, Repr

/-- An instruction with its operand field. -/
inductive Instr where
  -- inherent register and condition-code instructions, 00-1F
  /-- 01 NOP INHER (R110). -/
  | nop
  /-- 04 LSRD INHER (R111). -/
  | lsrd
  /-- 05 ASLD INHER (R112). -/
  | asld
  /-- 06 TAP INHER (R113). -/
  | tap
  /-- 07 TPA INHER (R114). -/
  | tpa
  /-- 08 INX INHER (R115). -/
  | inx
  /-- 09 DEX INHER (R116). -/
  | dex
  /-- 0A CLV INHER (R117). -/
  | clv
  /-- 0B SEV INHER (R118). -/
  | sev
  /-- 0C CLC INHER (R119). -/
  | clc
  /-- 0D SEC INHER (R120). -/
  | sec
  /-- 0E CLI INHER (R121). -/
  | cli
  /-- 0F SEI INHER (R122). -/
  | sei
  /-- 10 SBA INHER (R123). -/
  | sba
  /-- 11 CBA INHER (R124). -/
  | cba
  /-- 16 TAB INHER (R125). -/
  | tab
  /-- 17 TBA INHER (R126). -/
  | tba
  /-- 19 DAA INHER (R127). -/
  | daa
  /-- 1B ABA INHER (R128). -/
  | aba
  -- branches, 20-2F
  /-- 20 BRA REL (R131). -/
  | bra (rel : Byte)
  /-- 21 BRN REL (R132). -/
  | brn (rel : Byte)
  /-- 22 BHI REL (R133). -/
  | bhi (rel : Byte)
  /-- 23 BLS REL (R134). -/
  | bls (rel : Byte)
  /-- 24 BCC REL (R135). -/
  | bcc (rel : Byte)
  /-- 25 BCS REL (R136). -/
  | bcs (rel : Byte)
  /-- 26 BNE REL (R137). -/
  | bne (rel : Byte)
  /-- 27 BEQ REL (R138). -/
  | beq (rel : Byte)
  /-- 28 BVC REL (R139). -/
  | bvc (rel : Byte)
  /-- 29 BVS REL (R140). -/
  | bvs (rel : Byte)
  /-- 2A BPL REL (R141). -/
  | bpl (rel : Byte)
  /-- 2B BMI REL (R142). -/
  | bmi (rel : Byte)
  /-- 2C BGE REL (R143). -/
  | bge (rel : Byte)
  /-- 2D BLT REL (R144). -/
  | blt (rel : Byte)
  /-- 2E BGT REL (R145). -/
  | bgt (rel : Byte)
  /-- 2F BLE REL (R146). -/
  | ble (rel : Byte)
  -- stack, index, multiply and interrupt instructions, 30-3F
  /-- 30 TSX INHER (R150). -/
  | tsx
  /-- 31 INS INHER (R151). -/
  | ins
  /-- 32 PULA INHER (R152). -/
  | pula
  /-- 33 PULB INHER (R153). -/
  | pulb
  /-- 34 DES INHER (R154). -/
  | des
  /-- 35 TXS INHER (R155). -/
  | txs
  /-- 36 PSHA INHER (R156). -/
  | psha
  /-- 37 PSHB INHER (R157). -/
  | pshb
  /-- 38 PULX INHER (R158). -/
  | pulx
  /-- 39 RTS INHER (R159). -/
  | rts
  /-- 3A ABX INHER (R160). -/
  | abx
  /-- 3B RTI INHER (R161). -/
  | rti
  /-- 3C PSHX INHER (R162). -/
  | pshx
  /-- 3D MUL INHER (R163). -/
  | mul
  /-- 3E WAI INHER (R164). -/
  | wai
  /-- 3F SWI INHER (R165). -/
  | swi
  -- unary operations on A and B, 40-5F
  /-- 40 NEGA INHER (R171). -/
  | nega
  /-- 43 COMA INHER (R172). -/
  | coma
  /-- 44 LSRA INHER (R173). -/
  | lsra
  /-- 46 RORA INHER (R174). -/
  | rora
  /-- 47 ASRA INHER (R175). -/
  | asra
  /-- 48 ASLA INHER (R176). -/
  | asla
  /-- 49 ROLA INHER (R177). -/
  | rola
  /-- 4A DECA INHER (R178). -/
  | deca
  /-- 4C INCA INHER (R179). -/
  | inca
  /-- 4D TSTA INHER (R180). -/
  | tsta
  /-- 4F CLRA INHER (R181). -/
  | clra
  /-- 50 NEGB INHER (R182). -/
  | negb
  /-- 53 COMB INHER (R183). -/
  | comb
  /-- 54 LSRB INHER (R184). -/
  | lsrb
  /-- 56 RORB INHER (R185). -/
  | rorb
  /-- 57 ASRB INHER (R186). -/
  | asrb
  /-- 58 ASLB INHER (R187). -/
  | aslb
  /-- 59 ROLB INHER (R188). -/
  | rolb
  /-- 5A DECB INHER (R189). -/
  | decb
  /-- 5C INCB INHER (R190). -/
  | incb
  /-- 5D TSTB INHER (R191). -/
  | tstb
  /-- 5F CLRB INHER (R192). -/
  | clrb
  -- unary operations on memory and JMP, 60-7F
  /-- 60 NEG INDXD (R193). -/
  | negInd (off : Byte)
  /-- 63 COM INDXD (R194). -/
  | comInd (off : Byte)
  /-- 64 LSR INDXD (R195). -/
  | lsrInd (off : Byte)
  /-- 66 ROR INDXD (R196). -/
  | rorInd (off : Byte)
  /-- 67 ASR INDXD (R197). -/
  | asrInd (off : Byte)
  /-- 68 ASL INDXD (R198). -/
  | aslInd (off : Byte)
  /-- 69 ROL INDXD (R199). -/
  | rolInd (off : Byte)
  /-- 6A DEC INDXD (R200). -/
  | decInd (off : Byte)
  /-- 6C INC INDXD (R201). -/
  | incInd (off : Byte)
  /-- 6D TST INDXD (R202). -/
  | tstInd (off : Byte)
  /-- 6E JMP INDXD (R203). -/
  | jmpInd (off : Byte)
  /-- 6F CLR INDXD (R204). -/
  | clrInd (off : Byte)
  /-- 70 NEG EXTND (R193). -/
  | negExt (addr : Word)
  /-- 73 COM EXTND (R194). -/
  | comExt (addr : Word)
  /-- 74 LSR EXTND (R195). -/
  | lsrExt (addr : Word)
  /-- 76 ROR EXTND (R196). -/
  | rorExt (addr : Word)
  /-- 77 ASR EXTND (R197). -/
  | asrExt (addr : Word)
  /-- 78 ASL EXTND (R198). -/
  | aslExt (addr : Word)
  /-- 79 ROL EXTND (R199). -/
  | rolExt (addr : Word)
  /-- 7A DEC EXTND (R200). -/
  | decExt (addr : Word)
  /-- 7C INC EXTND (R201). -/
  | incExt (addr : Word)
  /-- 7D TST EXTND (R202). -/
  | tstExt (addr : Word)
  /-- 7E JMP EXTND (R203). -/
  | jmpExt (addr : Word)
  /-- 7F CLR EXTND (R204). -/
  | clrExt (addr : Word)
  -- accumulator A group, SUBD, CPX, BSR, JSR, LDS, STS, 80-BF
  /-- 80 SUBA IMMED8 (R210). -/
  | subaImm (v : Byte)
  /-- 81 CMPA IMMED8 (R211). -/
  | cmpaImm (v : Byte)
  /-- 82 SBCA IMMED8 (R212). -/
  | sbcaImm (v : Byte)
  /-- 83 SUBD IMMED16 (R213). -/
  | subdImm (v : Word)
  /-- 84 ANDA IMMED8 (R214). -/
  | andaImm (v : Byte)
  /-- 85 BITA IMMED8 (R215). -/
  | bitaImm (v : Byte)
  /-- 86 LDAA IMMED8 (R216). -/
  | ldaaImm (v : Byte)
  /-- 88 EORA IMMED8 (R218). -/
  | eoraImm (v : Byte)
  /-- 89 ADCA IMMED8 (R219). -/
  | adcaImm (v : Byte)
  /-- 8A ORAA IMMED8 (R220). -/
  | oraaImm (v : Byte)
  /-- 8B ADDA IMMED8 (R221). -/
  | addaImm (v : Byte)
  /-- 8C CPX IMMED16 (R222). -/
  | cpxImm (v : Word)
  /-- 8D BSR REL (R223). -/
  | bsr (rel : Byte)
  /-- 8E LDS IMMED16 (R225). -/
  | ldsImm (v : Word)
  /-- 90 SUBA DIR (R210). -/
  | subaDir (d : Byte)
  /-- 91 CMPA DIR (R211). -/
  | cmpaDir (d : Byte)
  /-- 92 SBCA DIR (R212). -/
  | sbcaDir (d : Byte)
  /-- 93 SUBD DIR (R213). -/
  | subdDir (d : Byte)
  /-- 94 ANDA DIR (R214). -/
  | andaDir (d : Byte)
  /-- 95 BITA DIR (R215). -/
  | bitaDir (d : Byte)
  /-- 96 LDAA DIR (R216). -/
  | ldaaDir (d : Byte)
  /-- 97 STAA DIR (R217). -/
  | staaDir (d : Byte)
  /-- 98 EORA DIR (R218). -/
  | eoraDir (d : Byte)
  /-- 99 ADCA DIR (R219). -/
  | adcaDir (d : Byte)
  /-- 9A ORAA DIR (R220). -/
  | oraaDir (d : Byte)
  /-- 9B ADDA DIR (R221). -/
  | addaDir (d : Byte)
  /-- 9C CPX DIR (R222). -/
  | cpxDir (d : Byte)
  /-- 9D JSR DIR (R224). -/
  | jsrDir (d : Byte)
  /-- 9E LDS DIR (R225). -/
  | ldsDir (d : Byte)
  /-- 9F STS DIR (R226). -/
  | stsDir (d : Byte)
  /-- A0 SUBA INDXD (R210). -/
  | subaInd (off : Byte)
  /-- A1 CMPA INDXD (R211). -/
  | cmpaInd (off : Byte)
  /-- A2 SBCA INDXD (R212). -/
  | sbcaInd (off : Byte)
  /-- A3 SUBD INDXD (R213). -/
  | subdInd (off : Byte)
  /-- A4 ANDA INDXD (R214). -/
  | andaInd (off : Byte)
  /-- A5 BITA INDXD (R215). -/
  | bitaInd (off : Byte)
  /-- A6 LDAA INDXD (R216). -/
  | ldaaInd (off : Byte)
  /-- A7 STAA INDXD (R217). -/
  | staaInd (off : Byte)
  /-- A8 EORA INDXD (R218). -/
  | eoraInd (off : Byte)
  /-- A9 ADCA INDXD (R219). -/
  | adcaInd (off : Byte)
  /-- AA ORAA INDXD (R220). -/
  | oraaInd (off : Byte)
  /-- AB ADDA INDXD (R221). -/
  | addaInd (off : Byte)
  /-- AC CPX INDXD (R222). -/
  | cpxInd (off : Byte)
  /-- AD JSR INDXD (R224). -/
  | jsrInd (off : Byte)
  /-- AE LDS INDXD (R225). -/
  | ldsInd (off : Byte)
  /-- AF STS INDXD (R226). -/
  | stsInd (off : Byte)
  /-- B0 SUBA EXTND (R210). -/
  | subaExt (addr : Word)
  /-- B1 CMPA EXTND (R211). -/
  | cmpaExt (addr : Word)
  /-- B2 SBCA EXTND (R212). -/
  | sbcaExt (addr : Word)
  /-- B3 SUBD EXTND (R213). -/
  | subdExt (addr : Word)
  /-- B4 ANDA EXTND (R214). -/
  | andaExt (addr : Word)
  /-- B5 BITA EXTND (R215). -/
  | bitaExt (addr : Word)
  /-- B6 LDAA EXTND (R216). -/
  | ldaaExt (addr : Word)
  /-- B7 STAA EXTND (R217). -/
  | staaExt (addr : Word)
  /-- B8 EORA EXTND (R218). -/
  | eoraExt (addr : Word)
  /-- B9 ADCA EXTND (R219). -/
  | adcaExt (addr : Word)
  /-- BA ORAA EXTND (R220). -/
  | oraaExt (addr : Word)
  /-- BB ADDA EXTND (R221). -/
  | addaExt (addr : Word)
  /-- BC CPX EXTND (R222). -/
  | cpxExt (addr : Word)
  /-- BD JSR EXTND (R224). -/
  | jsrExt (addr : Word)
  /-- BE LDS EXTND (R225). -/
  | ldsExt (addr : Word)
  /-- BF STS EXTND (R226). -/
  | stsExt (addr : Word)
  -- accumulator B group, ADDD, LDD, STD, LDX, STX, C0-FF
  /-- C0 SUBB IMMED8 (R230). -/
  | subbImm (v : Byte)
  /-- C1 CMPB IMMED8 (R231). -/
  | cmpbImm (v : Byte)
  /-- C2 SBCB IMMED8 (R232). -/
  | sbcbImm (v : Byte)
  /-- C3 ADDD IMMED16 (R233). -/
  | adddImm (v : Word)
  /-- C4 ANDB IMMED8 (R234). -/
  | andbImm (v : Byte)
  /-- C5 BITB IMMED8 (R235). -/
  | bitbImm (v : Byte)
  /-- C6 LDAB IMMED8 (R236). -/
  | ldabImm (v : Byte)
  /-- C8 EORB IMMED8 (R238). -/
  | eorbImm (v : Byte)
  /-- C9 ADCB IMMED8 (R239). -/
  | adcbImm (v : Byte)
  /-- CA ORAB IMMED8 (R240). -/
  | orabImm (v : Byte)
  /-- CB ADDB IMMED8 (R241). -/
  | addbImm (v : Byte)
  /-- CC LDD IMMED16 (R242). -/
  | lddImm (v : Word)
  /-- CE LDX IMMED16 (R244). -/
  | ldxImm (v : Word)
  /-- D0 SUBB DIR (R230). -/
  | subbDir (d : Byte)
  /-- D1 CMPB DIR (R231). -/
  | cmpbDir (d : Byte)
  /-- D2 SBCB DIR (R232). -/
  | sbcbDir (d : Byte)
  /-- D3 ADDD DIR (R233). -/
  | adddDir (d : Byte)
  /-- D4 ANDB DIR (R234). -/
  | andbDir (d : Byte)
  /-- D5 BITB DIR (R235). -/
  | bitbDir (d : Byte)
  /-- D6 LDAB DIR (R236). -/
  | ldabDir (d : Byte)
  /-- D7 STAB DIR (R237). -/
  | stabDir (d : Byte)
  /-- D8 EORB DIR (R238). -/
  | eorbDir (d : Byte)
  /-- D9 ADCB DIR (R239). -/
  | adcbDir (d : Byte)
  /-- DA ORAB DIR (R240). -/
  | orabDir (d : Byte)
  /-- DB ADDB DIR (R241). -/
  | addbDir (d : Byte)
  /-- DC LDD DIR (R242). -/
  | lddDir (d : Byte)
  /-- DD STD DIR (R243). -/
  | stdDir (d : Byte)
  /-- DE LDX DIR (R244). -/
  | ldxDir (d : Byte)
  /-- DF STX DIR (R245). -/
  | stxDir (d : Byte)
  /-- E0 SUBB INDXD (R230). -/
  | subbInd (off : Byte)
  /-- E1 CMPB INDXD (R231). -/
  | cmpbInd (off : Byte)
  /-- E2 SBCB INDXD (R232). -/
  | sbcbInd (off : Byte)
  /-- E3 ADDD INDXD (R233). -/
  | adddInd (off : Byte)
  /-- E4 ANDB INDXD (R234). -/
  | andbInd (off : Byte)
  /-- E5 BITB INDXD (R235). -/
  | bitbInd (off : Byte)
  /-- E6 LDAB INDXD (R236). -/
  | ldabInd (off : Byte)
  /-- E7 STAB INDXD (R237). -/
  | stabInd (off : Byte)
  /-- E8 EORB INDXD (R238). -/
  | eorbInd (off : Byte)
  /-- E9 ADCB INDXD (R239). -/
  | adcbInd (off : Byte)
  /-- EA ORAB INDXD (R240). -/
  | orabInd (off : Byte)
  /-- EB ADDB INDXD (R241). -/
  | addbInd (off : Byte)
  /-- EC LDD INDXD (R242). -/
  | lddInd (off : Byte)
  /-- ED STD INDXD (R243). -/
  | stdInd (off : Byte)
  /-- EE LDX INDXD (R244). -/
  | ldxInd (off : Byte)
  /-- EF STX INDXD (R245). -/
  | stxInd (off : Byte)
  /-- F0 SUBB EXTND (R230). -/
  | subbExt (addr : Word)
  /-- F1 CMPB EXTND (R231). -/
  | cmpbExt (addr : Word)
  /-- F2 SBCB EXTND (R232). -/
  | sbcbExt (addr : Word)
  /-- F3 ADDD EXTND (R233). -/
  | adddExt (addr : Word)
  /-- F4 ANDB EXTND (R234). -/
  | andbExt (addr : Word)
  /-- F5 BITB EXTND (R235). -/
  | bitbExt (addr : Word)
  /-- F6 LDAB EXTND (R236). -/
  | ldabExt (addr : Word)
  /-- F7 STAB EXTND (R237). -/
  | stabExt (addr : Word)
  /-- F8 EORB EXTND (R238). -/
  | eorbExt (addr : Word)
  /-- F9 ADCB EXTND (R239). -/
  | adcbExt (addr : Word)
  /-- FA ORAB EXTND (R240). -/
  | orabExt (addr : Word)
  /-- FB ADDB EXTND (R241). -/
  | addbExt (addr : Word)
  /-- FC LDD EXTND (R242). -/
  | lddExt (addr : Word)
  /-- FD STD EXTND (R243). -/
  | stdExt (addr : Word)
  /-- FE LDX EXTND (R244). -/
  | ldxExt (addr : Word)
  /-- FF STX EXTND (R245). -/
  | stxExt (addr : Word)
  deriving DecidableEq, Repr

end Sys2Proof
end

