-- ==== Sys2Proof/Decode.lean ====
section
/-! DEFINITION. The decoder, total on any bytes, and after it the encoder (30_encoding.md R80 to
R97). The decoder is TABLE 8 itself: the first byte selects a row (R80, R93), and the row says its
mnemonic, addressing mode, cycles and the operand bytes that follow. -/

namespace Sys2Proof

/-- What follows the opcode byte (R81): nothing, one operand byte, or two with the most
significant first (R84, R86), and the instruction they make. -/
inductive Form where
  | none (i : Instr)
  | byte (f : Byte → Instr)
  | word (f : Word → Instr)

/-- A row of TABLE 8: MNEM, MODE, the execution time `~` in E cycles (R290, informative), and the
form of the instruction. -/
structure OpRow where
  mnemonic : String
  mode : Mode
  cycles : Nat
  form : Form

/-- The number of bytes an instruction of this form has, the `#` column (R80, R93). -/
def formLength (f : Form) : Nat :=
  match f with
  | .none _ => 1
  | .byte _ => 2
  | .word _ => 3

/-- Opcodes 00 to 0F by their low nibble; an absent one is unassigned (R90, R91). -/
def opcodeRow0 (lo : Nat) : Option OpRow :=
  match lo with
  | 0x1 => some ⟨"NOP", .inher, 2, .none .nop⟩
  | 0x4 => some ⟨"LSRD", .inher, 3, .none .lsrd⟩
  | 0x5 => some ⟨"ASLD", .inher, 3, .none .asld⟩
  | 0x6 => some ⟨"TAP", .inher, 2, .none .tap⟩
  | 0x7 => some ⟨"TPA", .inher, 2, .none .tpa⟩
  | 0x8 => some ⟨"INX", .inher, 3, .none .inx⟩
  | 0x9 => some ⟨"DEX", .inher, 3, .none .dex⟩
  | 0xA => some ⟨"CLV", .inher, 2, .none .clv⟩
  | 0xB => some ⟨"SEV", .inher, 2, .none .sev⟩
  | 0xC => some ⟨"CLC", .inher, 2, .none .clc⟩
  | 0xD => some ⟨"SEC", .inher, 2, .none .sec⟩
  | 0xE => some ⟨"CLI", .inher, 2, .none .cli⟩
  | 0xF => some ⟨"SEI", .inher, 2, .none .sei⟩
  | _ => none

/-- Opcodes 10 to 1F by their low nibble; an absent one is unassigned (R90, R91). -/
def opcodeRow1 (lo : Nat) : Option OpRow :=
  match lo with
  | 0x0 => some ⟨"SBA", .inher, 2, .none .sba⟩
  | 0x1 => some ⟨"CBA", .inher, 2, .none .cba⟩
  | 0x6 => some ⟨"TAB", .inher, 2, .none .tab⟩
  | 0x7 => some ⟨"TBA", .inher, 2, .none .tba⟩
  | 0x9 => some ⟨"DAA", .inher, 2, .none .daa⟩
  | 0xB => some ⟨"ABA", .inher, 2, .none .aba⟩
  | _ => none

/-- Opcodes 20 to 2F by their low nibble; an absent one is unassigned (R90, R91). -/
def opcodeRow2 (lo : Nat) : Option OpRow :=
  match lo with
  | 0x0 => some ⟨"BRA", .rel, 3, .byte .bra⟩
  | 0x1 => some ⟨"BRN", .rel, 3, .byte .brn⟩
  | 0x2 => some ⟨"BHI", .rel, 3, .byte .bhi⟩
  | 0x3 => some ⟨"BLS", .rel, 3, .byte .bls⟩
  | 0x4 => some ⟨"BCC", .rel, 3, .byte .bcc⟩
  | 0x5 => some ⟨"BCS", .rel, 3, .byte .bcs⟩
  | 0x6 => some ⟨"BNE", .rel, 3, .byte .bne⟩
  | 0x7 => some ⟨"BEQ", .rel, 3, .byte .beq⟩
  | 0x8 => some ⟨"BVC", .rel, 3, .byte .bvc⟩
  | 0x9 => some ⟨"BVS", .rel, 3, .byte .bvs⟩
  | 0xA => some ⟨"BPL", .rel, 3, .byte .bpl⟩
  | 0xB => some ⟨"BMI", .rel, 3, .byte .bmi⟩
  | 0xC => some ⟨"BGE", .rel, 3, .byte .bge⟩
  | 0xD => some ⟨"BLT", .rel, 3, .byte .blt⟩
  | 0xE => some ⟨"BGT", .rel, 3, .byte .bgt⟩
  | 0xF => some ⟨"BLE", .rel, 3, .byte .ble⟩
  | _ => none

/-- Opcodes 30 to 3F by their low nibble; an absent one is unassigned (R90, R91). -/
def opcodeRow3 (lo : Nat) : Option OpRow :=
  match lo with
  | 0x0 => some ⟨"TSX", .inher, 3, .none .tsx⟩
  | 0x1 => some ⟨"INS", .inher, 3, .none .ins⟩
  | 0x2 => some ⟨"PULA", .inher, 4, .none .pula⟩
  | 0x3 => some ⟨"PULB", .inher, 4, .none .pulb⟩
  | 0x4 => some ⟨"DES", .inher, 3, .none .des⟩
  | 0x5 => some ⟨"TXS", .inher, 3, .none .txs⟩
  | 0x6 => some ⟨"PSHA", .inher, 3, .none .psha⟩
  | 0x7 => some ⟨"PSHB", .inher, 3, .none .pshb⟩
  | 0x8 => some ⟨"PULX", .inher, 5, .none .pulx⟩
  | 0x9 => some ⟨"RTS", .inher, 5, .none .rts⟩
  | 0xA => some ⟨"ABX", .inher, 3, .none .abx⟩
  | 0xB => some ⟨"RTI", .inher, 10, .none .rti⟩
  | 0xC => some ⟨"PSHX", .inher, 4, .none .pshx⟩
  | 0xD => some ⟨"MUL", .inher, 10, .none .mul⟩
  | 0xE => some ⟨"WAI", .inher, 9, .none .wai⟩
  | 0xF => some ⟨"SWI", .inher, 12, .none .swi⟩
  | _ => none

/-- Opcodes 40 to 4F by their low nibble; an absent one is unassigned (R90, R91). -/
def opcodeRow4 (lo : Nat) : Option OpRow :=
  match lo with
  | 0x0 => some ⟨"NEGA", .inher, 2, .none .nega⟩
  | 0x3 => some ⟨"COMA", .inher, 2, .none .coma⟩
  | 0x4 => some ⟨"LSRA", .inher, 2, .none .lsra⟩
  | 0x6 => some ⟨"RORA", .inher, 2, .none .rora⟩
  | 0x7 => some ⟨"ASRA", .inher, 2, .none .asra⟩
  | 0x8 => some ⟨"ASLA", .inher, 2, .none .asla⟩
  | 0x9 => some ⟨"ROLA", .inher, 2, .none .rola⟩
  | 0xA => some ⟨"DECA", .inher, 2, .none .deca⟩
  | 0xC => some ⟨"INCA", .inher, 2, .none .inca⟩
  | 0xD => some ⟨"TSTA", .inher, 2, .none .tsta⟩
  | 0xF => some ⟨"CLRA", .inher, 2, .none .clra⟩
  | _ => none

/-- Opcodes 50 to 5F by their low nibble; an absent one is unassigned (R90, R91). -/
def opcodeRow5 (lo : Nat) : Option OpRow :=
  match lo with
  | 0x0 => some ⟨"NEGB", .inher, 2, .none .negb⟩
  | 0x3 => some ⟨"COMB", .inher, 2, .none .comb⟩
  | 0x4 => some ⟨"LSRB", .inher, 2, .none .lsrb⟩
  | 0x6 => some ⟨"RORB", .inher, 2, .none .rorb⟩
  | 0x7 => some ⟨"ASRB", .inher, 2, .none .asrb⟩
  | 0x8 => some ⟨"ASLB", .inher, 2, .none .aslb⟩
  | 0x9 => some ⟨"ROLB", .inher, 2, .none .rolb⟩
  | 0xA => some ⟨"DECB", .inher, 2, .none .decb⟩
  | 0xC => some ⟨"INCB", .inher, 2, .none .incb⟩
  | 0xD => some ⟨"TSTB", .inher, 2, .none .tstb⟩
  | 0xF => some ⟨"CLRB", .inher, 2, .none .clrb⟩
  | _ => none

/-- Opcodes 60 to 6F by their low nibble; an absent one is unassigned (R90, R91). -/
def opcodeRow6 (lo : Nat) : Option OpRow :=
  match lo with
  | 0x0 => some ⟨"NEG", .indxd, 6, .byte .negInd⟩
  | 0x3 => some ⟨"COM", .indxd, 6, .byte .comInd⟩
  | 0x4 => some ⟨"LSR", .indxd, 6, .byte .lsrInd⟩
  | 0x6 => some ⟨"ROR", .indxd, 6, .byte .rorInd⟩
  | 0x7 => some ⟨"ASR", .indxd, 6, .byte .asrInd⟩
  | 0x8 => some ⟨"ASL", .indxd, 6, .byte .aslInd⟩
  | 0x9 => some ⟨"ROL", .indxd, 6, .byte .rolInd⟩
  | 0xA => some ⟨"DEC", .indxd, 6, .byte .decInd⟩
  | 0xC => some ⟨"INC", .indxd, 6, .byte .incInd⟩
  | 0xD => some ⟨"TST", .indxd, 6, .byte .tstInd⟩
  | 0xE => some ⟨"JMP", .indxd, 3, .byte .jmpInd⟩
  | 0xF => some ⟨"CLR", .indxd, 6, .byte .clrInd⟩
  | _ => none

/-- Opcodes 70 to 7F by their low nibble; an absent one is unassigned (R90, R91). -/
def opcodeRow7 (lo : Nat) : Option OpRow :=
  match lo with
  | 0x0 => some ⟨"NEG", .extnd, 6, .word .negExt⟩
  | 0x3 => some ⟨"COM", .extnd, 6, .word .comExt⟩
  | 0x4 => some ⟨"LSR", .extnd, 6, .word .lsrExt⟩
  | 0x6 => some ⟨"ROR", .extnd, 6, .word .rorExt⟩
  | 0x7 => some ⟨"ASR", .extnd, 6, .word .asrExt⟩
  | 0x8 => some ⟨"ASL", .extnd, 6, .word .aslExt⟩
  | 0x9 => some ⟨"ROL", .extnd, 6, .word .rolExt⟩
  | 0xA => some ⟨"DEC", .extnd, 6, .word .decExt⟩
  | 0xC => some ⟨"INC", .extnd, 6, .word .incExt⟩
  | 0xD => some ⟨"TST", .extnd, 6, .word .tstExt⟩
  | 0xE => some ⟨"JMP", .extnd, 3, .word .jmpExt⟩
  | 0xF => some ⟨"CLR", .extnd, 6, .word .clrExt⟩
  | _ => none

/-- Opcodes 80 to 8F by their low nibble; an absent one is unassigned (R90, R91). -/
def opcodeRow8 (lo : Nat) : Option OpRow :=
  match lo with
  | 0x0 => some ⟨"SUBA", .immed, 2, .byte .subaImm⟩
  | 0x1 => some ⟨"CMPA", .immed, 2, .byte .cmpaImm⟩
  | 0x2 => some ⟨"SBCA", .immed, 2, .byte .sbcaImm⟩
  | 0x3 => some ⟨"SUBD", .immed, 4, .word .subdImm⟩
  | 0x4 => some ⟨"ANDA", .immed, 2, .byte .andaImm⟩
  | 0x5 => some ⟨"BITA", .immed, 2, .byte .bitaImm⟩
  | 0x6 => some ⟨"LDAA", .immed, 2, .byte .ldaaImm⟩
  | 0x8 => some ⟨"EORA", .immed, 2, .byte .eoraImm⟩
  | 0x9 => some ⟨"ADCA", .immed, 2, .byte .adcaImm⟩
  | 0xA => some ⟨"ORAA", .immed, 2, .byte .oraaImm⟩
  | 0xB => some ⟨"ADDA", .immed, 2, .byte .addaImm⟩
  | 0xC => some ⟨"CPX", .immed, 4, .word .cpxImm⟩
  | 0xD => some ⟨"BSR", .rel, 6, .byte .bsr⟩
  | 0xE => some ⟨"LDS", .immed, 3, .word .ldsImm⟩
  | _ => none

/-- Opcodes 90 to 9F by their low nibble; an absent one is unassigned (R90, R91). -/
def opcodeRow9 (lo : Nat) : Option OpRow :=
  match lo with
  | 0x0 => some ⟨"SUBA", .dir, 3, .byte .subaDir⟩
  | 0x1 => some ⟨"CMPA", .dir, 3, .byte .cmpaDir⟩
  | 0x2 => some ⟨"SBCA", .dir, 3, .byte .sbcaDir⟩
  | 0x3 => some ⟨"SUBD", .dir, 5, .byte .subdDir⟩
  | 0x4 => some ⟨"ANDA", .dir, 3, .byte .andaDir⟩
  | 0x5 => some ⟨"BITA", .dir, 3, .byte .bitaDir⟩
  | 0x6 => some ⟨"LDAA", .dir, 3, .byte .ldaaDir⟩
  | 0x7 => some ⟨"STAA", .dir, 3, .byte .staaDir⟩
  | 0x8 => some ⟨"EORA", .dir, 3, .byte .eoraDir⟩
  | 0x9 => some ⟨"ADCA", .dir, 3, .byte .adcaDir⟩
  | 0xA => some ⟨"ORAA", .dir, 3, .byte .oraaDir⟩
  | 0xB => some ⟨"ADDA", .dir, 3, .byte .addaDir⟩
  | 0xC => some ⟨"CPX", .dir, 5, .byte .cpxDir⟩
  | 0xD => some ⟨"JSR", .dir, 5, .byte .jsrDir⟩
  | 0xE => some ⟨"LDS", .dir, 4, .byte .ldsDir⟩
  | 0xF => some ⟨"STS", .dir, 4, .byte .stsDir⟩
  | _ => none

/-- Opcodes A0 to AF by their low nibble; an absent one is unassigned (R90, R91). -/
def opcodeRowA (lo : Nat) : Option OpRow :=
  match lo with
  | 0x0 => some ⟨"SUBA", .indxd, 4, .byte .subaInd⟩
  | 0x1 => some ⟨"CMPA", .indxd, 4, .byte .cmpaInd⟩
  | 0x2 => some ⟨"SBCA", .indxd, 4, .byte .sbcaInd⟩
  | 0x3 => some ⟨"SUBD", .indxd, 6, .byte .subdInd⟩
  | 0x4 => some ⟨"ANDA", .indxd, 4, .byte .andaInd⟩
  | 0x5 => some ⟨"BITA", .indxd, 4, .byte .bitaInd⟩
  | 0x6 => some ⟨"LDAA", .indxd, 4, .byte .ldaaInd⟩
  | 0x7 => some ⟨"STAA", .indxd, 4, .byte .staaInd⟩
  | 0x8 => some ⟨"EORA", .indxd, 4, .byte .eoraInd⟩
  | 0x9 => some ⟨"ADCA", .indxd, 4, .byte .adcaInd⟩
  | 0xA => some ⟨"ORAA", .indxd, 4, .byte .oraaInd⟩
  | 0xB => some ⟨"ADDA", .indxd, 4, .byte .addaInd⟩
  | 0xC => some ⟨"CPX", .indxd, 6, .byte .cpxInd⟩
  | 0xD => some ⟨"JSR", .indxd, 6, .byte .jsrInd⟩
  | 0xE => some ⟨"LDS", .indxd, 5, .byte .ldsInd⟩
  | 0xF => some ⟨"STS", .indxd, 5, .byte .stsInd⟩
  | _ => none

/-- Opcodes B0 to BF by their low nibble; an absent one is unassigned (R90, R91). -/
def opcodeRowB (lo : Nat) : Option OpRow :=
  match lo with
  | 0x0 => some ⟨"SUBA", .extnd, 4, .word .subaExt⟩
  | 0x1 => some ⟨"CMPA", .extnd, 4, .word .cmpaExt⟩
  | 0x2 => some ⟨"SBCA", .extnd, 4, .word .sbcaExt⟩
  | 0x3 => some ⟨"SUBD", .extnd, 6, .word .subdExt⟩
  | 0x4 => some ⟨"ANDA", .extnd, 4, .word .andaExt⟩
  | 0x5 => some ⟨"BITA", .extnd, 4, .word .bitaExt⟩
  | 0x6 => some ⟨"LDAA", .extnd, 4, .word .ldaaExt⟩
  | 0x7 => some ⟨"STAA", .extnd, 4, .word .staaExt⟩
  | 0x8 => some ⟨"EORA", .extnd, 4, .word .eoraExt⟩
  | 0x9 => some ⟨"ADCA", .extnd, 4, .word .adcaExt⟩
  | 0xA => some ⟨"ORAA", .extnd, 4, .word .oraaExt⟩
  | 0xB => some ⟨"ADDA", .extnd, 4, .word .addaExt⟩
  | 0xC => some ⟨"CPX", .extnd, 6, .word .cpxExt⟩
  | 0xD => some ⟨"JSR", .extnd, 6, .word .jsrExt⟩
  | 0xE => some ⟨"LDS", .extnd, 5, .word .ldsExt⟩
  | 0xF => some ⟨"STS", .extnd, 5, .word .stsExt⟩
  | _ => none

/-- Opcodes C0 to CF by their low nibble; an absent one is unassigned (R90, R91). -/
def opcodeRowC (lo : Nat) : Option OpRow :=
  match lo with
  | 0x0 => some ⟨"SUBB", .immed, 2, .byte .subbImm⟩
  | 0x1 => some ⟨"CMPB", .immed, 2, .byte .cmpbImm⟩
  | 0x2 => some ⟨"SBCB", .immed, 2, .byte .sbcbImm⟩
  | 0x3 => some ⟨"ADDD", .immed, 4, .word .adddImm⟩
  | 0x4 => some ⟨"ANDB", .immed, 2, .byte .andbImm⟩
  | 0x5 => some ⟨"BITB", .immed, 2, .byte .bitbImm⟩
  | 0x6 => some ⟨"LDAB", .immed, 2, .byte .ldabImm⟩
  | 0x8 => some ⟨"EORB", .immed, 2, .byte .eorbImm⟩
  | 0x9 => some ⟨"ADCB", .immed, 2, .byte .adcbImm⟩
  | 0xA => some ⟨"ORAB", .immed, 2, .byte .orabImm⟩
  | 0xB => some ⟨"ADDB", .immed, 2, .byte .addbImm⟩
  | 0xC => some ⟨"LDD", .immed, 3, .word .lddImm⟩
  | 0xE => some ⟨"LDX", .immed, 3, .word .ldxImm⟩
  | _ => none

/-- Opcodes D0 to DF by their low nibble; an absent one is unassigned (R90, R91). -/
def opcodeRowD (lo : Nat) : Option OpRow :=
  match lo with
  | 0x0 => some ⟨"SUBB", .dir, 3, .byte .subbDir⟩
  | 0x1 => some ⟨"CMPB", .dir, 3, .byte .cmpbDir⟩
  | 0x2 => some ⟨"SBCB", .dir, 3, .byte .sbcbDir⟩
  | 0x3 => some ⟨"ADDD", .dir, 5, .byte .adddDir⟩
  | 0x4 => some ⟨"ANDB", .dir, 3, .byte .andbDir⟩
  | 0x5 => some ⟨"BITB", .dir, 3, .byte .bitbDir⟩
  | 0x6 => some ⟨"LDAB", .dir, 3, .byte .ldabDir⟩
  | 0x7 => some ⟨"STAB", .dir, 3, .byte .stabDir⟩
  | 0x8 => some ⟨"EORB", .dir, 3, .byte .eorbDir⟩
  | 0x9 => some ⟨"ADCB", .dir, 3, .byte .adcbDir⟩
  | 0xA => some ⟨"ORAB", .dir, 3, .byte .orabDir⟩
  | 0xB => some ⟨"ADDB", .dir, 3, .byte .addbDir⟩
  | 0xC => some ⟨"LDD", .dir, 4, .byte .lddDir⟩
  | 0xD => some ⟨"STD", .dir, 4, .byte .stdDir⟩
  | 0xE => some ⟨"LDX", .dir, 4, .byte .ldxDir⟩
  | 0xF => some ⟨"STX", .dir, 4, .byte .stxDir⟩
  | _ => none

/-- Opcodes E0 to EF by their low nibble; an absent one is unassigned (R90, R91). -/
def opcodeRowE (lo : Nat) : Option OpRow :=
  match lo with
  | 0x0 => some ⟨"SUBB", .indxd, 4, .byte .subbInd⟩
  | 0x1 => some ⟨"CMPB", .indxd, 4, .byte .cmpbInd⟩
  | 0x2 => some ⟨"SBCB", .indxd, 4, .byte .sbcbInd⟩
  | 0x3 => some ⟨"ADDD", .indxd, 6, .byte .adddInd⟩
  | 0x4 => some ⟨"ANDB", .indxd, 4, .byte .andbInd⟩
  | 0x5 => some ⟨"BITB", .indxd, 4, .byte .bitbInd⟩
  | 0x6 => some ⟨"LDAB", .indxd, 4, .byte .ldabInd⟩
  | 0x7 => some ⟨"STAB", .indxd, 4, .byte .stabInd⟩
  | 0x8 => some ⟨"EORB", .indxd, 4, .byte .eorbInd⟩
  | 0x9 => some ⟨"ADCB", .indxd, 4, .byte .adcbInd⟩
  | 0xA => some ⟨"ORAB", .indxd, 4, .byte .orabInd⟩
  | 0xB => some ⟨"ADDB", .indxd, 4, .byte .addbInd⟩
  | 0xC => some ⟨"LDD", .indxd, 5, .byte .lddInd⟩
  | 0xD => some ⟨"STD", .indxd, 5, .byte .stdInd⟩
  | 0xE => some ⟨"LDX", .indxd, 5, .byte .ldxInd⟩
  | 0xF => some ⟨"STX", .indxd, 5, .byte .stxInd⟩
  | _ => none

/-- Opcodes F0 to FF by their low nibble; an absent one is unassigned (R90, R91). -/
def opcodeRowF (lo : Nat) : Option OpRow :=
  match lo with
  | 0x0 => some ⟨"SUBB", .extnd, 4, .word .subbExt⟩
  | 0x1 => some ⟨"CMPB", .extnd, 4, .word .cmpbExt⟩
  | 0x2 => some ⟨"SBCB", .extnd, 4, .word .sbcbExt⟩
  | 0x3 => some ⟨"ADDD", .extnd, 6, .word .adddExt⟩
  | 0x4 => some ⟨"ANDB", .extnd, 4, .word .andbExt⟩
  | 0x5 => some ⟨"BITB", .extnd, 4, .word .bitbExt⟩
  | 0x6 => some ⟨"LDAB", .extnd, 4, .word .ldabExt⟩
  | 0x7 => some ⟨"STAB", .extnd, 4, .word .stabExt⟩
  | 0x8 => some ⟨"EORB", .extnd, 4, .word .eorbExt⟩
  | 0x9 => some ⟨"ADCB", .extnd, 4, .word .adcbExt⟩
  | 0xA => some ⟨"ORAB", .extnd, 4, .word .orabExt⟩
  | 0xB => some ⟨"ADDB", .extnd, 4, .word .addbExt⟩
  | 0xC => some ⟨"LDD", .extnd, 5, .word .lddExt⟩
  | 0xD => some ⟨"STD", .extnd, 5, .word .stdExt⟩
  | 0xE => some ⟨"LDX", .extnd, 5, .word .ldxExt⟩
  | 0xF => some ⟨"STX", .extnd, 5, .word .stxExt⟩
  | _ => none

/-- The row of TABLE 8 for a first byte; `none` for the 36 unassigned values (R90, R91). -/
def opcodeRow (op : Byte) : Option OpRow :=
  let lo := op.toNat % 16
  match op.toNat / 16 with
  | 0x0 => opcodeRow0 lo
  | 0x1 => opcodeRow1 lo
  | 0x2 => opcodeRow2 lo
  | 0x3 => opcodeRow3 lo
  | 0x4 => opcodeRow4 lo
  | 0x5 => opcodeRow5 lo
  | 0x6 => opcodeRow6 lo
  | 0x7 => opcodeRow7 lo
  | 0x8 => opcodeRow8 lo
  | 0x9 => opcodeRow9 lo
  | 0xA => opcodeRowA lo
  | 0xB => opcodeRowB lo
  | 0xC => opcodeRowC lo
  | 0xD => opcodeRowD lo
  | 0xE => opcodeRowE lo
  | 0xF => opcodeRowF lo
  | _ => none

/-- Why bytes are not an instruction. -/
inductive DecodeError where
  /-- There is no byte at all. -/
  | noBytes
  /-- The first byte is one of the 36 unassigned values (R91). -/
  | unassigned (op : Byte)
  /-- The operand bytes of an assigned opcode are missing. -/
  | truncated (op : Byte)
  deriving DecidableEq, Repr

/-- Takes the operand bytes a form asks for and gives the instruction and the bytes after it;
`none` where the bytes run out (R81, R84, R86). -/
def takeOperands (f : Form) (bs : List Byte) : Option (Instr × List Byte) :=
  match f, bs with
  | .none i, rest => some (i, rest)
  | .byte g, b1 :: rest => some (g b1, rest)
  | .word g, b1 :: b2 :: rest => some (g (join b1 b2), rest)
  | _, _ => none

/-- The decoder (R80, R93): the first byte alone decides the instruction and its length; the
bytes after it are returned. Every byte string is either decoded or rejected by name. -/
def decode (bs : List Byte) : Except DecodeError (Instr × List Byte) :=
  match bs with
  | [] => .error .noBytes
  | op :: rest =>
    match opcodeRow op with
    | none => .error (.unassigned op)
    | some row =>
      match takeOperands row.form rest with
      | none => .error (.truncated op)
      | some r => .ok r

/-- The instruction the decoder reads from a word numbered as spec/opcode_table.json numbers it:
the opcode is bits 7 to 0, the following bytes bits 15 to 8 and 23 to 16; bits from `nbits` on are
zero. -/
def decodeTableWord (nbits w : Nat) : Option Instr :=
  let v := w % 2 ^ nbits
  match decode [BitVec.ofNat 8 v, BitVec.ofNat 8 (v / 256), BitVec.ofNat 8 (v / 65536)] with
  | .ok (i, _) => some i
  | .error _ => none

/-- The bytes of an instruction, at ascending addresses (R80, R81, R90). -/
def encode (i : Instr) : List Byte :=
  match i with
  | .nop => [0x01#8]
  | .lsrd => [0x04#8]
  | .asld => [0x05#8]
  | .tap => [0x06#8]
  | .tpa => [0x07#8]
  | .inx => [0x08#8]
  | .dex => [0x09#8]
  | .clv => [0x0A#8]
  | .sev => [0x0B#8]
  | .clc => [0x0C#8]
  | .sec => [0x0D#8]
  | .cli => [0x0E#8]
  | .sei => [0x0F#8]
  | .sba => [0x10#8]
  | .cba => [0x11#8]
  | .tab => [0x16#8]
  | .tba => [0x17#8]
  | .daa => [0x19#8]
  | .aba => [0x1B#8]
  | .bra rel => [0x20#8, rel]
  | .brn rel => [0x21#8, rel]
  | .bhi rel => [0x22#8, rel]
  | .bls rel => [0x23#8, rel]
  | .bcc rel => [0x24#8, rel]
  | .bcs rel => [0x25#8, rel]
  | .bne rel => [0x26#8, rel]
  | .beq rel => [0x27#8, rel]
  | .bvc rel => [0x28#8, rel]
  | .bvs rel => [0x29#8, rel]
  | .bpl rel => [0x2A#8, rel]
  | .bmi rel => [0x2B#8, rel]
  | .bge rel => [0x2C#8, rel]
  | .blt rel => [0x2D#8, rel]
  | .bgt rel => [0x2E#8, rel]
  | .ble rel => [0x2F#8, rel]
  | .tsx => [0x30#8]
  | .ins => [0x31#8]
  | .pula => [0x32#8]
  | .pulb => [0x33#8]
  | .des => [0x34#8]
  | .txs => [0x35#8]
  | .psha => [0x36#8]
  | .pshb => [0x37#8]
  | .pulx => [0x38#8]
  | .rts => [0x39#8]
  | .abx => [0x3A#8]
  | .rti => [0x3B#8]
  | .pshx => [0x3C#8]
  | .mul => [0x3D#8]
  | .wai => [0x3E#8]
  | .swi => [0x3F#8]
  | .nega => [0x40#8]
  | .coma => [0x43#8]
  | .lsra => [0x44#8]
  | .rora => [0x46#8]
  | .asra => [0x47#8]
  | .asla => [0x48#8]
  | .rola => [0x49#8]
  | .deca => [0x4A#8]
  | .inca => [0x4C#8]
  | .tsta => [0x4D#8]
  | .clra => [0x4F#8]
  | .negb => [0x50#8]
  | .comb => [0x53#8]
  | .lsrb => [0x54#8]
  | .rorb => [0x56#8]
  | .asrb => [0x57#8]
  | .aslb => [0x58#8]
  | .rolb => [0x59#8]
  | .decb => [0x5A#8]
  | .incb => [0x5C#8]
  | .tstb => [0x5D#8]
  | .clrb => [0x5F#8]
  | .negInd off => [0x60#8, off]
  | .comInd off => [0x63#8, off]
  | .lsrInd off => [0x64#8, off]
  | .rorInd off => [0x66#8, off]
  | .asrInd off => [0x67#8, off]
  | .aslInd off => [0x68#8, off]
  | .rolInd off => [0x69#8, off]
  | .decInd off => [0x6A#8, off]
  | .incInd off => [0x6C#8, off]
  | .tstInd off => [0x6D#8, off]
  | .jmpInd off => [0x6E#8, off]
  | .clrInd off => [0x6F#8, off]
  | .negExt addr => [0x70#8, hiByte addr, loByte addr]
  | .comExt addr => [0x73#8, hiByte addr, loByte addr]
  | .lsrExt addr => [0x74#8, hiByte addr, loByte addr]
  | .rorExt addr => [0x76#8, hiByte addr, loByte addr]
  | .asrExt addr => [0x77#8, hiByte addr, loByte addr]
  | .aslExt addr => [0x78#8, hiByte addr, loByte addr]
  | .rolExt addr => [0x79#8, hiByte addr, loByte addr]
  | .decExt addr => [0x7A#8, hiByte addr, loByte addr]
  | .incExt addr => [0x7C#8, hiByte addr, loByte addr]
  | .tstExt addr => [0x7D#8, hiByte addr, loByte addr]
  | .jmpExt addr => [0x7E#8, hiByte addr, loByte addr]
  | .clrExt addr => [0x7F#8, hiByte addr, loByte addr]
  | .subaImm v => [0x80#8, v]
  | .cmpaImm v => [0x81#8, v]
  | .sbcaImm v => [0x82#8, v]
  | .subdImm v => [0x83#8, hiByte v, loByte v]
  | .andaImm v => [0x84#8, v]
  | .bitaImm v => [0x85#8, v]
  | .ldaaImm v => [0x86#8, v]
  | .eoraImm v => [0x88#8, v]
  | .adcaImm v => [0x89#8, v]
  | .oraaImm v => [0x8A#8, v]
  | .addaImm v => [0x8B#8, v]
  | .cpxImm v => [0x8C#8, hiByte v, loByte v]
  | .bsr rel => [0x8D#8, rel]
  | .ldsImm v => [0x8E#8, hiByte v, loByte v]
  | .subaDir d => [0x90#8, d]
  | .cmpaDir d => [0x91#8, d]
  | .sbcaDir d => [0x92#8, d]
  | .subdDir d => [0x93#8, d]
  | .andaDir d => [0x94#8, d]
  | .bitaDir d => [0x95#8, d]
  | .ldaaDir d => [0x96#8, d]
  | .staaDir d => [0x97#8, d]
  | .eoraDir d => [0x98#8, d]
  | .adcaDir d => [0x99#8, d]
  | .oraaDir d => [0x9A#8, d]
  | .addaDir d => [0x9B#8, d]
  | .cpxDir d => [0x9C#8, d]
  | .jsrDir d => [0x9D#8, d]
  | .ldsDir d => [0x9E#8, d]
  | .stsDir d => [0x9F#8, d]
  | .subaInd off => [0xA0#8, off]
  | .cmpaInd off => [0xA1#8, off]
  | .sbcaInd off => [0xA2#8, off]
  | .subdInd off => [0xA3#8, off]
  | .andaInd off => [0xA4#8, off]
  | .bitaInd off => [0xA5#8, off]
  | .ldaaInd off => [0xA6#8, off]
  | .staaInd off => [0xA7#8, off]
  | .eoraInd off => [0xA8#8, off]
  | .adcaInd off => [0xA9#8, off]
  | .oraaInd off => [0xAA#8, off]
  | .addaInd off => [0xAB#8, off]
  | .cpxInd off => [0xAC#8, off]
  | .jsrInd off => [0xAD#8, off]
  | .ldsInd off => [0xAE#8, off]
  | .stsInd off => [0xAF#8, off]
  | .subaExt addr => [0xB0#8, hiByte addr, loByte addr]
  | .cmpaExt addr => [0xB1#8, hiByte addr, loByte addr]
  | .sbcaExt addr => [0xB2#8, hiByte addr, loByte addr]
  | .subdExt addr => [0xB3#8, hiByte addr, loByte addr]
  | .andaExt addr => [0xB4#8, hiByte addr, loByte addr]
  | .bitaExt addr => [0xB5#8, hiByte addr, loByte addr]
  | .ldaaExt addr => [0xB6#8, hiByte addr, loByte addr]
  | .staaExt addr => [0xB7#8, hiByte addr, loByte addr]
  | .eoraExt addr => [0xB8#8, hiByte addr, loByte addr]
  | .adcaExt addr => [0xB9#8, hiByte addr, loByte addr]
  | .oraaExt addr => [0xBA#8, hiByte addr, loByte addr]
  | .addaExt addr => [0xBB#8, hiByte addr, loByte addr]
  | .cpxExt addr => [0xBC#8, hiByte addr, loByte addr]
  | .jsrExt addr => [0xBD#8, hiByte addr, loByte addr]
  | .ldsExt addr => [0xBE#8, hiByte addr, loByte addr]
  | .stsExt addr => [0xBF#8, hiByte addr, loByte addr]
  | .subbImm v => [0xC0#8, v]
  | .cmpbImm v => [0xC1#8, v]
  | .sbcbImm v => [0xC2#8, v]
  | .adddImm v => [0xC3#8, hiByte v, loByte v]
  | .andbImm v => [0xC4#8, v]
  | .bitbImm v => [0xC5#8, v]
  | .ldabImm v => [0xC6#8, v]
  | .eorbImm v => [0xC8#8, v]
  | .adcbImm v => [0xC9#8, v]
  | .orabImm v => [0xCA#8, v]
  | .addbImm v => [0xCB#8, v]
  | .lddImm v => [0xCC#8, hiByte v, loByte v]
  | .ldxImm v => [0xCE#8, hiByte v, loByte v]
  | .subbDir d => [0xD0#8, d]
  | .cmpbDir d => [0xD1#8, d]
  | .sbcbDir d => [0xD2#8, d]
  | .adddDir d => [0xD3#8, d]
  | .andbDir d => [0xD4#8, d]
  | .bitbDir d => [0xD5#8, d]
  | .ldabDir d => [0xD6#8, d]
  | .stabDir d => [0xD7#8, d]
  | .eorbDir d => [0xD8#8, d]
  | .adcbDir d => [0xD9#8, d]
  | .orabDir d => [0xDA#8, d]
  | .addbDir d => [0xDB#8, d]
  | .lddDir d => [0xDC#8, d]
  | .stdDir d => [0xDD#8, d]
  | .ldxDir d => [0xDE#8, d]
  | .stxDir d => [0xDF#8, d]
  | .subbInd off => [0xE0#8, off]
  | .cmpbInd off => [0xE1#8, off]
  | .sbcbInd off => [0xE2#8, off]
  | .adddInd off => [0xE3#8, off]
  | .andbInd off => [0xE4#8, off]
  | .bitbInd off => [0xE5#8, off]
  | .ldabInd off => [0xE6#8, off]
  | .stabInd off => [0xE7#8, off]
  | .eorbInd off => [0xE8#8, off]
  | .adcbInd off => [0xE9#8, off]
  | .orabInd off => [0xEA#8, off]
  | .addbInd off => [0xEB#8, off]
  | .lddInd off => [0xEC#8, off]
  | .stdInd off => [0xED#8, off]
  | .ldxInd off => [0xEE#8, off]
  | .stxInd off => [0xEF#8, off]
  | .subbExt addr => [0xF0#8, hiByte addr, loByte addr]
  | .cmpbExt addr => [0xF1#8, hiByte addr, loByte addr]
  | .sbcbExt addr => [0xF2#8, hiByte addr, loByte addr]
  | .adddExt addr => [0xF3#8, hiByte addr, loByte addr]
  | .andbExt addr => [0xF4#8, hiByte addr, loByte addr]
  | .bitbExt addr => [0xF5#8, hiByte addr, loByte addr]
  | .ldabExt addr => [0xF6#8, hiByte addr, loByte addr]
  | .stabExt addr => [0xF7#8, hiByte addr, loByte addr]
  | .eorbExt addr => [0xF8#8, hiByte addr, loByte addr]
  | .adcbExt addr => [0xF9#8, hiByte addr, loByte addr]
  | .orabExt addr => [0xFA#8, hiByte addr, loByte addr]
  | .addbExt addr => [0xFB#8, hiByte addr, loByte addr]
  | .lddExt addr => [0xFC#8, hiByte addr, loByte addr]
  | .stdExt addr => [0xFD#8, hiByte addr, loByte addr]
  | .ldxExt addr => [0xFE#8, hiByte addr, loByte addr]
  | .stxExt addr => [0xFF#8, hiByte addr, loByte addr]

/-- The opcode byte of an instruction (R80). -/
def opcodeOf (i : Instr) : Byte := (encode i).headD 0

/-- The row of TABLE 8 an instruction belongs to (R90). -/
def rowOf (i : Instr) : Option OpRow := opcodeRow (opcodeOf i)

end Sys2Proof
end

