-- ==== Sys2Proof/Config.lean ====
section
/-! DEFINITION. What is fixed for one machine and not chosen by the spec: the shape of the
parameters `MemMap`, `VEC` and `IntSources` (00_scope.md R4, 20_memory.md R60, 60_exceptions.md
R254, R256), and the values the spec leaves free, as constants without a body. The default values of the
parameters stand in Machine/Platform.lean. -/

namespace Sys2Proof

/-- A byte that the spec leaves unspecified: what a read of a device or absent address returns
(R60, decision D26), and A, B, X and SP after a reset event (R281). It is applied to the counter
`draws` of State, so that every draw may differ from every other (log 7, log 10). -/
opaque Config.freeByte : Nat → Byte

/-- A condition bit that the spec leaves unspecified: V after DAA (R127, U3), and H, N, Z, V, C
after a reset event (R281). Applied to the counter `draws` of State (log 7, log 9). -/
opaque Config.freeBit : Nat → Bool

/-- The kinds of address of `MemMap` (R60). -/
inductive AddrKind where
  /-- A read returns the last byte written. -/
  | storage
  /-- A read returns a fixed byte; a write has no effect on later reads. -/
  | rom
  /-- A read returns a draw; accesses are recorded for the platform. `readEffect` says whether the
  platform declares a read of the address to have a side effect (R59): a program that points there is
  refused (R57, U8, log 11). -/
  | device (readEffect : Bool)
  /-- A read returns a draw; a write has no effect. -/
  | absent
  deriving DecidableEq, Repr

/-- One entry of `MemMap`: the `size` addresses from `base` on are of the given kind (R60). -/
structure Region where
  base : Word
  size : Nat
  kind : AddrKind
  deriving DecidableEq, Repr

/-- The names of interrupt request lines: the six of the default table of R254, and any further
ones a platform may have, since `IntSources` is a parameter (decision D15). -/
inductive SourceName where
  | nmi
  | irq1
  | icf
  | ocf
  | tof
  | sci
  | other (n : Nat)
  deriving DecidableEq, Repr

/-- One entry of `IntSources` (R254): its name, whether the I bit inhibits it, and the address of
its vector. The priority is the place in the list, the first entry the highest. -/
structure IntSource where
  name : SourceName
  maskable : Bool
  vector : Word
  deriving DecidableEq, Repr

/-- The parameters of the machine (R4): the memory map, the vector addresses of reset and SWI, and
the interrupt sources with theirs. Read by the step, written by none (R41, R256). -/
structure Platform where
  /-- `MemMap` (R60); the first region that holds an address decides, and an address in none is storage. -/
  memMap : List Region
  /-- `VEC.reset` (R256). -/
  vecReset : Word
  /-- `VEC.swi` (R256). -/
  vecSwi : Word
  /-- `IntSources` (R254), each with its entry of `VEC`. -/
  sources : List IntSource
  deriving DecidableEq, Repr

/-- What the environment presents at one instruction boundary (R37, R254, R257, R280). -/
structure Boundary where
  /-- `none`: reset is not asserted. `some k`: reset is asserted after the first `k` byte accesses of
  what the step would have done (R281); `some 0` is a reset at the boundary itself (log 8). -/
  reset : Option Nat
  /-- `P`, the set of sources whose request is asserted. -/
  asserted : List SourceName
  deriving DecidableEq, Repr

/-- One byte access of the CPU to memory, as `bus` records it (R54, R57, R60). -/
inductive Access where
  | read (addr : Word) (v : Byte)
  | write (addr : Word) (v : Byte)
  deriving DecidableEq, Repr

end Sys2Proof
end

