-- ==== Sys2Proof/Machine/Platform.lean ====
section
/-! DEFINITION. The parameters' default values and what they say of an address (20_memory.md R60,
60_exceptions.md R254, R256). -/

namespace Sys2Proof

/-- The default `IntSources` in priority order, each with its default `VEC` entry (R254, R256, R270,
decisions D9, D14, D15). -/
def defaultSources : List IntSource :=
  [⟨.nmi, false, 0xFFFC#16⟩, ⟨.irq1, true, 0xFFF8#16⟩, ⟨.icf, true, 0xFFF6#16⟩,
   ⟨.ocf, true, 0xFFF4#16⟩, ⟨.tof, true, 0xFFF2#16⟩, ⟨.sci, true, 0xFFF0#16⟩]

/-- The default platform: every address is storage (R60), the vectors of R256, the sources of R254. -/
def defaultPlatform : Platform :=
  { memMap := [], vecReset := 0xFFFE#16, vecSwi := 0xFFFA#16, sources := defaultSources }

/-- Whether a region holds the address. -/
def regionHolds (r : Region) (a : Word) : Bool :=
  decide (r.base.toNat ≤ a.toNat ∧ a.toNat < r.base.toNat + r.size)

/-- `MemMap` as a function (R60): the first region that holds the address; storage in none. -/
def kindIn (regions : List Region) (a : Word) : AddrKind :=
  match regions with
  | [] => .storage
  | r :: rest => if regionHolds r a then r.kind else kindIn rest a

/-- The kind of an address on a platform (R60). -/
def kindAt (p : Platform) (a : Word) : AddrKind := kindIn p.memMap a

/-- The kinds whose reads return what memory holds: storage and rom (R60). -/
def AddrKind.holdsByte (k : AddrKind) : Bool :=
  match k with
  | .storage => true
  | .rom => true
  | .device _ => false
  | .absent => false

/-- The platform declares that reading the address has a side effect (R57, R59). -/
def hasReadEffect (p : Platform) (a : Word) : Bool := kindAt p a == .device true

end Sys2Proof
end

