-- ==== Sys2Proof/Machine/State.lean ====
section
/-! DEFINITION. The state of the machine as plain data, the reasons a step can stop, and the state
right after reset (10_state.md, 70_reset_and_hazards.md). -/

namespace Sys2Proof.Machine

/-- Memory: the listed bytes at rising addresses; an unlisted address reads `memDefault` (R40, R50,
log 3). -/
abbrev Memory := List Host.Cell

/-- What a byte reads as that no entry of memory lists (log 3). -/
def memDefault : Byte := 0

/-- The six condition bits of the condition code register (R27). Bits 7 and 6 of CCR hold no state
and are no field (R28). -/
structure CCR where
  /-- Half carry, bit 5 (R29). -/
  h : Bool
  /-- Interrupt mask, bit 4 (R30). -/
  i : Bool
  /-- Negative, bit 3 (R31). -/
  n : Bool
  /-- Zero, bit 2 (R32). -/
  z : Bool
  /-- Overflow, bit 1 (R33). -/
  v : Bool
  /-- Carry or borrow, bit 0 (R34). -/
  c : Bool
  deriving DecidableEq, Repr

/-- The machine. The registers, the condition bits, the wait flag and memory are the spec's; the last
four fields are the model's own: the platform's parameters, what the environment will present, the
record of accesses, and the counter of free values. -/
structure State where
  /-- Accumulator A (R20). -/
  a : Byte
  /-- Accumulator B (R21). -/
  b : Byte
  /-- Index register (R23). -/
  x : Word
  /-- Stack pointer: the address of the next free byte of the stack (R24). -/
  sp : Word
  /-- Program counter (R26): between steps, the address of the next instruction. -/
  pc : Word
  /-- Condition code register (R27). -/
  ccr : CCR
  /-- The wait flag (R36). -/
  waiting : Bool
  /-- Memory (R40). -/
  mem : Memory
  /-- `MemMap`, `VEC` and `IntSources`: parameters, read only (R4, R41, log 4). -/
  platform : Platform
  /-- What the environment presents at this boundary and the following ones; after the last entry,
  nothing is asserted (R37, R254, R280, log 6). -/
  inputs : List Boundary
  /-- The byte accesses of the last step, oldest first (R57, R60, log 13). -/
  bus : List Access
  /-- How many free values have been drawn (log 18). -/
  draws : Nat
  deriving DecidableEq, Repr

/-- Why a step stops with a fault. -/
inductive Fault where
  /-- `raise IllegalOpcode(op, addr)` (R13, R91, decisions D6, D7). Raised by the step when the byte it
  fetches as an opcode is one of the 36 unassigned values. Safe: the real part goes on in a way the
  spec does not give, and nothing is claimed of it. -/
  | illegalOpcode (op : Byte) (addr : Word)
  deriving DecidableEq, Repr

/-- Why a step is refused. -/
inductive Refusal where
  /-- An instruction without a meaning. Raised by `exec` alone, for no instruction of this machine.
  Safe. -/
  | notModelled (mnemonic : String)
  /-- X, SP, PC or an operand address points at a device address whose read the platform declares to
  have a side effect (R57, U8, decision D19). Raised by the step. Safe: the real part goes on, with bus
  cycles the spec does not give. -/
  | busActivityUnknown (addr : Word)
  deriving DecidableEq, Repr

/-- The machine right after reset (R39, R280, R281): I is 1, the wait flag 0, PC the two bytes at
`VEC.reset`, which over a memory that lists nothing are $0000 (log 5). A, B, X, SP and H, N, Z, V, C
have no reset value in the spec: zero here (log 1, log 2, DESIGN CHOICE, unsafe). The platform is the
default one (log 4) and the environment presents nothing (log 6). -/
def State.reset : State :=
  { a := 0, b := 0, x := 0, sp := 0, pc := 0
    ccr := { h := false, i := true, n := false, z := false, v := false, c := false }
    waiting := false
    mem := []
    platform := defaultPlatform
    inputs := []
    bus := []
    draws := 0 }

end Sys2Proof.Machine
end

