-- ==== Sys2Proof/Machine/Flags.lean ====
section
/-! DEFINITION. The condition code register as a byte (R28) and every flag computation of the spec:
the adders of 00_scope.md R10 to R12 and the rules R31 to R34 for logical results, shifts and unary
operations. Sums and differences are taken exactly and then narrowed. -/

namespace Sys2Proof.Machine

/-- CCR read as a byte: `1 ‖ 1 ‖ H ‖ I ‖ N ‖ Z ‖ V ‖ C` (R28). -/
def CCR.toByte (f : CCR) : Byte :=
  BitVec.ofNat 8 (192 + 32 * f.h.toNat + 16 * f.i.toNat + 8 * f.n.toNat + 4 * f.z.toNat
    + 2 * f.v.toNat + f.c.toNat)

/-- CCR written from a byte: bits 7 and 6 are discarded (R28). -/
def CCR.ofByte (v : Byte) : CCR :=
  { h := v.getLsbD 5, i := v.getLsbD 4, n := v.getLsbD 3, z := v.getLsbD 2, v := v.getLsbD 1,
    c := v.getLsbD 0 }

/-- What an adder or a subtractor returns besides the half carry (R10 to R12). -/
structure AluResult (w : Nat) where
  r : BitVec w
  n : Bool
  z : Bool
  v : Bool
  c : Bool
  deriving DecidableEq, Repr

/-- Signed overflow of `a + b` with result `r` (R10, R12). -/
def addOverflow (a b r : Bool) : Bool := (a && b && !r) || (!a && !b && r)

/-- Signed overflow of `a - b` with result `r` (R11, R12). -/
def subOverflow (a b r : Bool) : Bool := (a && !b && !r) || (!a && b && r)

/-- The carry out of bit 3, `h` of `add8` (R10). -/
def halfCarry (a b : Byte) (cin : Bool) : Bool :=
  decide (a.toNat % 16 + b.toNat % 16 + cin.toNat > 15)

/-- `add8` (R10), but for `h`, which is `halfCarry`. -/
def add8 (a b : Byte) (cin : Bool) : AluResult 8 :=
  let t := a.toNat + b.toNat + cin.toNat
  let r := BitVec.ofNat 8 t
  { r := r, n := r.msb, z := r == 0, v := addOverflow a.msb b.msb r.msb, c := t.testBit 8 }

/-- `sub8` (R11): `c` is the borrow. -/
def sub8 (a b : Byte) (bin : Bool) : AluResult 8 :=
  let t : Int := (a.toNat : Int) - b.toNat - bin.toNat
  let r := BitVec.ofInt 8 t
  { r := r, n := r.msb, z := r == 0, v := subOverflow a.msb b.msb r.msb, c := decide (t < 0) }

/-- `add16` (R12). -/
def add16 (a b : Word) : AluResult 16 :=
  let t := a.toNat + b.toNat
  let r := BitVec.ofNat 16 t
  { r := r, n := r.msb, z := r == 0, v := addOverflow a.msb b.msb r.msb, c := t.testBit 16 }

/-- `sub16` (R12). -/
def sub16 (a b : Word) : AluResult 16 :=
  let t : Int := (a.toNat : Int) - b.toNat
  let r := BitVec.ofInt 16 t
  { r := r, n := r.msb, z := r == 0, v := subOverflow a.msb b.msb r.msb, c := decide (t < 0) }

/-- `N <- n; Z <- z; V <- v; C <- c`, H and I as they were (R35). -/
def CCR.withNZVC (f : CCR) {w : Nat} (q : AluResult w) : CCR :=
  { f with n := q.n, z := q.z, v := q.v, c := q.c }

/-- The same with H, after an 8-bit addition (R29, R35). -/
def CCR.withHNZVC (f : CCR) (h : Bool) (q : AluResult 8) : CCR :=
  { f with h := h, n := q.n, z := q.z, v := q.v, c := q.c }

/-- `N <- r's top bit; Z <- (r == 0); V <- 0`, C, H and I as they were: logical operations, loads,
stores and transfers (R31 to R33, R35; `nz8` and `nz16` of R12). -/
def CCR.withNZ {w : Nat} (f : CCR) (r : BitVec w) : CCR :=
  { f with n := r.msb, z := r == 0, v := false }

/-- The flags of a shift or rotate with result `r` and bit shifted out `c`:
`N <- top bit; Z <- (r == 0); C <- c; V <- N ^ C` (R31 to R34). -/
def CCR.withShift {w : Nat} (f : CCR) (r : BitVec w) (c : Bool) : CCR :=
  { f with n := r.msb, z := r == 0, v := r.msb ^^ c, c := c }

/-- `Z` alone, of a 16-bit result (R35: INX, DEX). -/
def CCR.withZ (f : CCR) (r : Word) : CCR := { f with z := r == 0 }

end Sys2Proof.Machine
end

