-- ==== Sys2Proof/Machine/Ops.lean ====
section
/-! DEFINITION. The named operations over memory and registers: memory access by kind of address
(00_scope.md R7, 20_memory.md R52 to R60), fetch (R8), the stack (R9), the frame, taking an exception
and returning from one (60_exceptions.md R255 to R261), and reset (70_reset_and_hazards.md R280). -/

namespace Sys2Proof.Machine

/-! ### Memory as a list -/

/-- The byte memory holds at an address: the listed one, or `memDefault` (R40). -/
def Memory.read (m : Memory) (a : Nat) : Byte :=
  match m with
  | [] => memDefault
  | (k, v) :: rest => if k = a then v else Memory.read rest a

/-- Memory with one byte changed, in canonical form: addresses rise, and no entry holds what an
unlisted address reads as. -/
def Memory.write (m : Memory) (a : Nat) (v : Byte) : Memory :=
  match m with
  | [] => if v = memDefault then [] else [(a, v)]
  | (k, u) :: rest =>
    if a < k then (if v = memDefault then (k, u) :: rest else (a, v) :: (k, u) :: rest)
    else if a = k then (if v = memDefault then rest else (a, v) :: rest)
    else (k, u) :: Memory.write rest a v

/-- Whether the addresses listed are all at least `lo`, rise, lie below 2^16, and hold no `memDefault`. -/
def Memory.wfFrom (lo : Nat) (m : Memory) : Bool :=
  match m with
  | [] => true
  | (k, v) :: rest =>
    decide (lo ≤ k) && decide (k < 65536) && decide (v ≠ memDefault) && Memory.wfFrom (k + 1) rest

/-- The canonical form of memory. -/
def Memory.wf (m : Memory) : Bool := Memory.wfFrom 0 m

/-! ### Access by kind of address -/

/-- The value a read of an address returns: what memory holds for storage and rom, a free value for a
device or an absent address (R60, decision D26). -/
def readValue (addr : Word) (s : State) : Byte :=
  if (kindAt s.platform addr).holdsByte then s.mem.read addr.toNat else Config.freeByte s.draws

/-- `MemRead(addr, 1)` (R7, R60): the value, and the state with the access recorded; a draw is fresh
at every read. -/
def memRead8 (addr : Word) (s : State) : Byte × State :=
  let v := readValue addr s
  (v, { s with
        bus := s.bus ++ [.read addr v]
        draws := if (kindAt s.platform addr).holdsByte then s.draws else s.draws + 1 })

/-- `MemWrite(addr, 1, v)` (R7, R60): storage is changed; rom and absent addresses are not; a device
sees the recorded access. -/
def memWrite8 (addr : Word) (v : Byte) (s : State) : State :=
  { s with
    bus := s.bus ++ [.write addr v]
    mem := if kindAt s.platform addr = .storage then s.mem.write addr.toNat v else s.mem }

/-- `MemRead(addr, 2)`: the byte at `addr` first, the most significant (R7, R52, R54). -/
def memRead16 (addr : Word) (s : State) : Word × State :=
  let p := memRead8 addr s
  let q := memRead8 (addr + 1) p.2
  (join p.1 q.1, q.2)

/-- `MemWrite(addr, 2, v)`: the most significant byte at `addr` first (R7, R52, R57). -/
def memWrite16 (addr : Word) (v : Word) (s : State) : State :=
  memWrite8 (addr + 1) (loByte v) (memWrite8 addr (hiByte v) s)

/-! ### Registers -/

/-- One of the two accumulators. -/
inductive Acc where
  | a
  | b
  deriving DecidableEq, Repr

/-- The accumulator's value (R20, R21). -/
def State.acc (s : State) (r : Acc) : Byte :=
  match r with
  | .a => s.a
  | .b => s.b

/-- The accumulator written (R20, R21). -/
def State.setAcc (s : State) (r : Acc) (v : Byte) : State :=
  match r with
  | .a => { s with a := v }
  | .b => { s with b := v }

/-- `D = A ‖ B` (R22). -/
def State.d (s : State) : Word := join s.a s.b

/-- `D <- v`: A receives `v[15:8]`, B `v[7:0]` (R6, R22). -/
def State.setD (s : State) (v : Word) : State := { s with a := hiByte v, b := loByte v }

/-! ### Fetch -/

/-- `Fetch8()` (R8). -/
def fetch8 (s : State) : Byte × State :=
  let p := memRead8 s.pc s
  (p.1, { p.2 with pc := s.pc + 1 })

/-- `n` bytes fetched one after another (R8, R14). -/
def fetchBytes (n : Nat) (s : State) : List Byte × State :=
  match n with
  | 0 => ([], s)
  | k + 1 =>
    let p := fetch8 s
    let q := fetchBytes k p.2
    (p.1 :: q.1, q.2)

/-- The fetch of one instruction (R14): the opcode, then exactly the operand bytes its format asks
for; PC then addresses the next instruction. Fails with the opcode byte where that is unassigned. -/
def fetchInstr (s : State) : Except Byte (Instr × State) :=
  let p := fetch8 s
  match opcodeRow p.1 with
  | none => .error p.1
  | some row =>
    let q := fetchBytes (formLength row.form - 1) p.2
    match decode (p.1 :: q.1) with
    | .ok (i, _) => .ok (i, q.2)
    | .error _ => .error p.1

/-! ### The stack (R9) -/

/-- `Push8(v)`: stored at SP, which then goes down by one. -/
def push8 (v : Byte) (s : State) : State :=
  { memWrite8 s.sp v s with sp := s.sp - 1 }

/-- `Pull8()`: SP goes up by one and the byte there is read. -/
def pull8 (s : State) : Byte × State :=
  memRead8 (s.sp + 1) { s with sp := s.sp + 1 }

/-- `Push16(v)`: the low byte first. -/
def push16 (v : Word) (s : State) : State := push8 (hiByte v) (push8 (loByte v) s)

/-- `Pull16()`: the high byte first. -/
def pull16 (s : State) : Word × State :=
  let p := pull8 s
  let q := pull8 p.2
  (join p.1 q.1, q.2)

/-! ### Taking an exception, and returning from one -/

/-- `StackAll()` (R255): PC, X, A, B and CCR, seven bytes. -/
def stackAll (s : State) : State :=
  push8 s.ccr.toByte (push8 s.b (push8 s.a (push16 s.x (push16 s.pc s))))

/-- The end of every entry: `I <- 1; PC <- MemRead(vector, 2)` (R258, R259). -/
def enterHandler (vector : Word) (s : State) : State :=
  let p := memRead16 vector { s with ccr := { s.ccr with i := true } }
  { p.2 with pc := p.1 }

/-- Taking an exception (R258): the frame is pushed unless WAI has pushed it already (R260), the
wait ends, I is set and PC is loaded from the vector. -/
def takeException (vector : Word) (s : State) : State :=
  let t := if s.waiting then s else stackAll s
  enterHandler vector { t with waiting := false }

/-- The return (R161, R261): CCR, B, A, X and PC are pulled, in that order. -/
def returnFromException (s : State) : State :=
  let pc := pull8 s
  let pb := pull8 pc.2
  let pa := pull8 pb.2
  let px := pull16 pa.2
  let pp := pull16 px.2
  { pp.2 with ccr := CCR.ofByte pc.1, b := pb.1, a := pa.1, x := px.1, pc := pp.1 }

/-! ### Reset -/

/-- `Reset()` (R280, R281): I is set, the wait ends and PC is loaded from `VEC.reset`; nothing is pushed
and no memory is written. A, B, X, SP, H, N, Z, V and C are unspecified afterwards: free values, drawn
once (R281, U5, log 7). -/
def resetEvent (s : State) : State :=
  let k := s.draws
  let p := memRead16 s.platform.vecReset
    { s with
      a := Config.freeByte k
      b := Config.freeByte (k + 1)
      x := join (Config.freeByte (k + 2)) (Config.freeByte (k + 3))
      sp := join (Config.freeByte (k + 4)) (Config.freeByte (k + 5))
      ccr := { h := Config.freeBit (k + 6), i := true, n := Config.freeBit (k + 7),
               z := Config.freeBit (k + 8), v := Config.freeBit (k + 9), c := Config.freeBit (k + 10) }
      waiting := false
      draws := k + 11 }
  { p.2 with pc := p.1 }

/-- One recorded access carried out again: a write to storage lands; a read changes no memory, and one
that drew a free value has used it up. -/
def replayAccess (s : State) (e : Access) : State :=
  match e with
  | .read addr v =>
    { s with
      bus := s.bus ++ [.read addr v]
      draws := if (kindAt s.platform addr).holdsByte then s.draws else s.draws + 1 }
  | .write addr v => memWrite8 addr v s

/-- The state of which the accesses of a list have been completed and nothing else (R281, log 8). -/
def replay (es : List Access) (s : State) : State := es.foldl replayAccess s

end Sys2Proof.Machine
end

