-- ==== Sys2Proof/Machine/Operands.lean ====
section
/-! DEFINITION. Every operand form: effective addresses, operand values and branch targets
(30_encoding.md R83 to R88, R97). -/

namespace Sys2Proof.Machine

/-- A memory operand: the modes DIR, INDXD and EXTND (R85 to R87). -/
inductive MemMode where
  | dir (d : Byte)
  | ind (off : Byte)
  | ext (addr : Word)
  deriving DecidableEq, Repr

/-- An 8-bit source operand: IMMED8 or in memory (R83, R97). -/
inductive Operand8 where
  | imm (v : Byte)
  | mem (m : MemMode)
  deriving DecidableEq, Repr

/-- A 16-bit source operand: IMMED16 or in memory (R84, R97). -/
inductive Operand16 where
  | imm (v : Word)
  | mem (m : MemMode)
  deriving DecidableEq, Repr

/-- `EA(mode)` (R97): modulo 2^16, X read before the instruction changes it. -/
def ea (m : MemMode) (s : State) : Word :=
  match m with
  | .dir d => zext16 d
  | .ind off => s.x + zext16 off
  | .ext addr => addr

/-- `operand8(mode)` (R97). -/
def operand8 (o : Operand8) (s : State) : Byte × State :=
  match o with
  | .imm v => (v, s)
  | .mem m => memRead8 (ea m s) s

/-- `operand16(mode)` (R97): the high byte at EA. -/
def operand16 (o : Operand16) (s : State) : Word × State :=
  match o with
  | .imm v => (v, s)
  | .mem m => memRead16 (ea m s) s

/-- The target of a relative branch: PC, which already addresses the next instruction, plus the signed
offset (R88, R130). -/
def relTarget (rel : Byte) (s : State) : Word := s.pc + sext16 rel

end Sys2Proof.Machine
end

