-- ==== Sys2Proof/Machine/Alu.lean ====
section
/-! DEFINITION. The computations the instruction rules share. A function named for an operation takes
the old value (and the operand) with CCR and gives the result with the new CCR; the functions after them
say where the old value comes from and where the result goes. -/

namespace Sys2Proof.Machine

/-! ### Two 8-bit operands (44_acca_8x_bx.md, 45_accb_cx_fx.md) -/

/-- ABA, ADDA, ADDB (R128, R221, R241). -/
def addOp (a m : Byte) (f : CCR) : Byte × CCR :=
  let q := add8 a m false
  (q.r, f.withHNZVC (halfCarry a m false) q)

/-- ADCA, ADCB: the old C is the carry in (R219, R239). -/
def adcOp (a m : Byte) (f : CCR) : Byte × CCR :=
  let q := add8 a m f.c
  (q.r, f.withHNZVC (halfCarry a m f.c) q)

/-- SBA, CBA, SUBA, SUBB, CMPA, CMPB (R123, R124, R210, R211, R230, R231). -/
def subOp (a m : Byte) (f : CCR) : Byte × CCR :=
  let q := sub8 a m false
  (q.r, f.withNZVC q)

/-- SBCA, SBCB: the old C is the borrow in (R212, R232). -/
def sbcOp (a m : Byte) (f : CCR) : Byte × CCR :=
  let q := sub8 a m f.c
  (q.r, f.withNZVC q)

/-- ANDA, ANDB, BITA, BITB (R214, R215, R234, R235). -/
def andOp (a m : Byte) (f : CCR) : Byte × CCR := (a &&& m, f.withNZ (a &&& m))

/-- EORA, EORB (R218, R238). -/
def eorOp (a m : Byte) (f : CCR) : Byte × CCR := (a ^^^ m, f.withNZ (a ^^^ m))

/-- ORAA, ORAB (R220, R240). -/
def oraOp (a m : Byte) (f : CCR) : Byte × CCR := (a ||| m, f.withNZ (a ||| m))

/-- LDAA, LDAB, TAB, TBA: the new value is the operand (R125, R126, R216, R236). -/
def loadOp (_ m : Byte) (f : CCR) : Byte × CCR := (m, f.withNZ m)

/-! ### One 8-bit operand (43_unary_4x_7x.md) -/

/-- NEG (R171, R182, R193): `sub8($00, v0, 0)`. -/
def negOp (v : Byte) (f : CCR) : Byte × CCR :=
  let q := sub8 0 v false
  (q.r, f.withNZVC q)

/-- COM (R172, R183, R194): C is always set. -/
def comOp (v : Byte) (f : CCR) : Byte × CCR := (~~~v, { f.withNZ (~~~v) with c := true })

/-- LSR (R173, R184, R195): zero enters bit 7. -/
def lsrOp (v : Byte) (f : CCR) : Byte × CCR := (v >>> 1, f.withShift (v >>> 1) (v.getLsbD 0))

/-- ROR (R174, R185, R196): the old C enters bit 7. -/
def rorOp (v : Byte) (f : CCR) : Byte × CCR :=
  let r : Byte := BitVec.ofBool f.c ++ v.extractLsb' 1 7
  (r, f.withShift r (v.getLsbD 0))

/-- ASR (R175, R186, R197): bit 7 is kept. -/
def asrOp (v : Byte) (f : CCR) : Byte × CCR :=
  let r : Byte := BitVec.ofBool v.msb ++ v.extractLsb' 1 7
  (r, f.withShift r (v.getLsbD 0))

/-- ASL (R176, R187, R198): zero enters bit 0. -/
def aslOp (v : Byte) (f : CCR) : Byte × CCR := (v <<< 1, f.withShift (v <<< 1) v.msb)

/-- ROL (R177, R188, R199): the old C enters bit 0. -/
def rolOp (v : Byte) (f : CCR) : Byte × CCR :=
  let r : Byte := v.extractLsb' 0 7 ++ BitVec.ofBool f.c
  (r, f.withShift r v.msb)

/-- DEC (R178, R189, R200): C is not touched. -/
def decOp (v : Byte) (f : CCR) : Byte × CCR :=
  (v - 1, { f.withNZ (v - 1) with v := v == 0x80 })

/-- INC (R179, R190, R201): C is not touched. -/
def incOp (v : Byte) (f : CCR) : Byte × CCR :=
  (v + 1, { f.withNZ (v + 1) with v := v == 0x7F })

/-- TST (R180, R191, R202): V and C are cleared. -/
def tstOp (v : Byte) (f : CCR) : Byte × CCR := (v, { f.withNZ v with c := false })

/-- CLR (R181, R192, R204). -/
def clrOp (_ : Byte) (f : CCR) : Byte × CCR :=
  (0, { f with n := false, z := true, v := false, c := false })

/-- The correction DAA adds to A (R127). -/
def daaCorrection (a : Byte) (h c : Bool) : Byte :=
  let lo := a.toNat % 16
  let hi := a.toNat / 16
  let low : Byte := if h || decide (lo > 9) then 0x06 else 0
  let high : Byte := if c || decide (hi > 9) || (decide (hi ≥ 9) && decide (lo > 9)) then 0x60 else 0
  low ||| high

/-- DAA (R127): the corrected A, and N, Z, C; V is the free value it is given (U3, log 9). -/
def daaOp (free : Bool) (a : Byte) (f : CCR) : Byte × CCR :=
  let cf := daaCorrection a f.h f.c
  let r := a + cf
  (r, { f with n := r.msb, z := r == 0, v := free, c := decide (cf.extractLsb' 5 2 ≠ 0) })

/-! ### Where the operands come from and where the result goes -/

/-- An operation on an accumulator and an operand, the result into the accumulator. -/
def accOp (op : Byte → Byte → CCR → Byte × CCR) (r : Acc) (o : Operand8) (s : State) : State :=
  let p := operand8 o s
  let q := op (p.2.acc r) p.1 p.2.ccr
  { p.2.setAcc r q.1 with ccr := q.2 }

/-- The same with the result discarded: compare and bit test. -/
def accTest (op : Byte → Byte → CCR → Byte × CCR) (r : Acc) (o : Operand8) (s : State) : State :=
  let p := operand8 o s
  { p.2 with ccr := (op (p.2.acc r) p.1 p.2.ccr).2 }

/-- An operation on one accumulator. -/
def unaryAcc (op : Byte → CCR → Byte × CCR) (r : Acc) (s : State) : State :=
  let q := op (s.acc r) s.ccr
  { s.setAcc r q.1 with ccr := q.2 }

/-- Read, modify, write of one memory byte (R56, R170). -/
def unaryMem (op : Byte → CCR → Byte × CCR) (m : MemMode) (s : State) : State :=
  let addr := ea m s
  let p := memRead8 addr s
  let q := op p.1 p.2.ccr
  { memWrite8 addr q.1 p.2 with ccr := q.2 }

/-- A test of one accumulator: flags only (R180, R191). -/
def testAcc (op : Byte → CCR → Byte × CCR) (r : Acc) (s : State) : State :=
  { s with ccr := (op (s.acc r) s.ccr).2 }

/-- A test of one memory byte: it is read and not written (R202). -/
def testMem (op : Byte → CCR → Byte × CCR) (m : MemMode) (s : State) : State :=
  let p := memRead8 (ea m s) s
  { p.2 with ccr := (op p.1 p.2.ccr).2 }

/-- A store of a byte: N, Z of the value stored, V cleared (R217, R237). -/
def store8 (v : Byte) (m : MemMode) (s : State) : State :=
  { memWrite8 (ea m s) v s with ccr := s.ccr.withNZ v }

/-- A store of two bytes (R226, R243, R245). -/
def store16 (v : Word) (m : MemMode) (s : State) : State :=
  { memWrite16 (ea m s) v s with ccr := s.ccr.withNZ v }

/-- A conditional branch: no flag written, nothing else read or written (R130). -/
def branchIf (cond : Bool) (rel : Byte) (s : State) : State :=
  { s with pc := if cond then relTarget rel s else s.pc }

/-- A call: PC, the return address, is pushed and control goes to the target (R223, R224). -/
def callTo (target : Word) (s : State) : State :=
  { push16 s.pc s with pc := target }

/-! ### 16-bit registers and a 16-bit operand -/

/-- SUBD (R213). -/
def subD (o : Operand16) (s : State) : State :=
  let p := operand16 o s
  let q := sub16 p.2.d p.1
  { p.2.setD q.r with ccr := p.2.ccr.withNZVC q }

/-- ADDD (R233): H keeps its old value. -/
def addD (o : Operand16) (s : State) : State :=
  let p := operand16 o s
  let q := add16 p.2.d p.1
  { p.2.setD q.r with ccr := p.2.ccr.withNZVC q }

/-- CPX (R222): all of N, Z, V, C from the 16-bit subtraction, X unchanged. -/
def compareX (o : Operand16) (s : State) : State :=
  let p := operand16 o s
  { p.2 with ccr := p.2.ccr.withNZVC (sub16 p.2.x p.1) }

/-- LDD (R242). -/
def loadD (o : Operand16) (s : State) : State :=
  let p := operand16 o s
  { p.2.setD p.1 with ccr := p.2.ccr.withNZ p.1 }

/-- LDX (R244): the address is computed from the old X. -/
def loadX (o : Operand16) (s : State) : State :=
  let p := operand16 o s
  { p.2 with x := p.1, ccr := p.2.ccr.withNZ p.1 }

/-- LDS (R225). -/
def loadSP (o : Operand16) (s : State) : State :=
  let p := operand16 o s
  { p.2 with sp := p.1, ccr := p.2.ccr.withNZ p.1 }

/-- LSRD (R111): zero enters bit 15. -/
def shiftRightD (s : State) : State :=
  let r := s.d >>> 1
  { s.setD r with ccr := s.ccr.withShift r (s.d.getLsbD 0) }

/-- ASLD (R112): zero enters bit 0. -/
def shiftLeftD (s : State) : State :=
  let r := s.d <<< 1
  { s.setD r with ccr := s.ccr.withShift r s.d.msb }

/-- MUL (R163): unsigned, C is bit 7 of the new B. -/
def multiply (s : State) : State :=
  let r : Word := zext16 s.a * zext16 s.b
  { s.setD r with ccr := { s.ccr with c := r.getLsbD 7 } }

end Sys2Proof.Machine
end

