-- ==== Sys2Proof/Machine/AccA.lean ====
section
/-! DEFINITION. The accumulator A group, SUBD, CPX, BSR, JSR, LDS and STS, opcodes 80 to BF (44_acca_8x_bx.md).
A meaning is given the state after the fetch, in which PC addresses the next instruction (00_scope.md
R14), and always answers a next state: no instruction of this machine can trap on its operands (R251). -/

namespace Sys2Proof.Machine

/-- `SUBA` (R210): subtract, accumulator A, immediate. -/
def execSubaImm (v : Byte) (s : State) : Host.Outcome State Fault Refusal :=
  .next (accOp subOp .a (.imm v) s)

/-- `CMPA` (R211): compare, accumulator A, immediate. -/
def execCmpaImm (v : Byte) (s : State) : Host.Outcome State Fault Refusal :=
  .next (accTest subOp .a (.imm v) s)

/-- `SBCA` (R212): subtract with borrow, accumulator A, immediate. -/
def execSbcaImm (v : Byte) (s : State) : Host.Outcome State Fault Refusal :=
  .next (accOp sbcOp .a (.imm v) s)

/-- `SUBD` (R213): subtract from D, immediate. -/
def execSubdImm (v : Word) (s : State) : Host.Outcome State Fault Refusal :=
  .next (subD (.imm v) s)

/-- `ANDA` (R214): logical and, accumulator A, immediate. -/
def execAndaImm (v : Byte) (s : State) : Host.Outcome State Fault Refusal :=
  .next (accOp andOp .a (.imm v) s)

/-- `BITA` (R215): bit test, accumulator A, immediate. -/
def execBitaImm (v : Byte) (s : State) : Host.Outcome State Fault Refusal :=
  .next (accTest andOp .a (.imm v) s)

/-- `LDAA` (R216): load, accumulator A, immediate. -/
def execLdaaImm (v : Byte) (s : State) : Host.Outcome State Fault Refusal :=
  .next (accOp loadOp .a (.imm v) s)

/-- `EORA` (R218): exclusive or, accumulator A, immediate. -/
def execEoraImm (v : Byte) (s : State) : Host.Outcome State Fault Refusal :=
  .next (accOp eorOp .a (.imm v) s)

/-- `ADCA` (R219): add with carry, accumulator A, immediate. -/
def execAdcaImm (v : Byte) (s : State) : Host.Outcome State Fault Refusal :=
  .next (accOp adcOp .a (.imm v) s)

/-- `ORAA` (R220): inclusive or, accumulator A, immediate. -/
def execOraaImm (v : Byte) (s : State) : Host.Outcome State Fault Refusal :=
  .next (accOp oraOp .a (.imm v) s)

/-- `ADDA` (R221): add, accumulator A, immediate. -/
def execAddaImm (v : Byte) (s : State) : Host.Outcome State Fault Refusal :=
  .next (accOp addOp .a (.imm v) s)

/-- `CPX` (R222): compare X, immediate. -/
def execCpxImm (v : Word) (s : State) : Host.Outcome State Fault Refusal :=
  .next (compareX (.imm v) s)

/-- `BSR` (R223): call of a relative target. -/
def execBsr (rel : Byte) (s : State) : Host.Outcome State Fault Refusal :=
  .next (callTo (relTarget rel s) s)

/-- `LDS` (R225): load SP, immediate. -/
def execLdsImm (v : Word) (s : State) : Host.Outcome State Fault Refusal :=
  .next (loadSP (.imm v) s)

/-- `SUBA` (R210): subtract, accumulator A, direct. -/
def execSubaDir (d : Byte) (s : State) : Host.Outcome State Fault Refusal :=
  .next (accOp subOp .a (.mem (.dir d)) s)

/-- `CMPA` (R211): compare, accumulator A, direct. -/
def execCmpaDir (d : Byte) (s : State) : Host.Outcome State Fault Refusal :=
  .next (accTest subOp .a (.mem (.dir d)) s)

/-- `SBCA` (R212): subtract with borrow, accumulator A, direct. -/
def execSbcaDir (d : Byte) (s : State) : Host.Outcome State Fault Refusal :=
  .next (accOp sbcOp .a (.mem (.dir d)) s)

/-- `SUBD` (R213): subtract from D, direct. -/
def execSubdDir (d : Byte) (s : State) : Host.Outcome State Fault Refusal :=
  .next (subD (.mem (.dir d)) s)

/-- `ANDA` (R214): logical and, accumulator A, direct. -/
def execAndaDir (d : Byte) (s : State) : Host.Outcome State Fault Refusal :=
  .next (accOp andOp .a (.mem (.dir d)) s)

/-- `BITA` (R215): bit test, accumulator A, direct. -/
def execBitaDir (d : Byte) (s : State) : Host.Outcome State Fault Refusal :=
  .next (accTest andOp .a (.mem (.dir d)) s)

/-- `LDAA` (R216): load, accumulator A, direct. -/
def execLdaaDir (d : Byte) (s : State) : Host.Outcome State Fault Refusal :=
  .next (accOp loadOp .a (.mem (.dir d)) s)

/-- `STAA` (R217): store A, direct. -/
def execStaaDir (d : Byte) (s : State) : Host.Outcome State Fault Refusal :=
  .next (store8 s.a (.dir d) s)

/-- `EORA` (R218): exclusive or, accumulator A, direct. -/
def execEoraDir (d : Byte) (s : State) : Host.Outcome State Fault Refusal :=
  .next (accOp eorOp .a (.mem (.dir d)) s)

/-- `ADCA` (R219): add with carry, accumulator A, direct. -/
def execAdcaDir (d : Byte) (s : State) : Host.Outcome State Fault Refusal :=
  .next (accOp adcOp .a (.mem (.dir d)) s)

/-- `ORAA` (R220): inclusive or, accumulator A, direct. -/
def execOraaDir (d : Byte) (s : State) : Host.Outcome State Fault Refusal :=
  .next (accOp oraOp .a (.mem (.dir d)) s)

/-- `ADDA` (R221): add, accumulator A, direct. -/
def execAddaDir (d : Byte) (s : State) : Host.Outcome State Fault Refusal :=
  .next (accOp addOp .a (.mem (.dir d)) s)

/-- `CPX` (R222): compare X, direct. -/
def execCpxDir (d : Byte) (s : State) : Host.Outcome State Fault Refusal :=
  .next (compareX (.mem (.dir d)) s)

/-- `JSR` (R224): call of the direct address. -/
def execJsrDir (d : Byte) (s : State) : Host.Outcome State Fault Refusal :=
  .next (callTo (ea (.dir d) s) s)

/-- `LDS` (R225): load SP, direct. -/
def execLdsDir (d : Byte) (s : State) : Host.Outcome State Fault Refusal :=
  .next (loadSP (.mem (.dir d)) s)

/-- `STS` (R226): store SP, direct. -/
def execStsDir (d : Byte) (s : State) : Host.Outcome State Fault Refusal :=
  .next (store16 s.sp (.dir d) s)

/-- `SUBA` (R210): subtract, accumulator A, indexed. -/
def execSubaInd (off : Byte) (s : State) : Host.Outcome State Fault Refusal :=
  .next (accOp subOp .a (.mem (.ind off)) s)

/-- `CMPA` (R211): compare, accumulator A, indexed. -/
def execCmpaInd (off : Byte) (s : State) : Host.Outcome State Fault Refusal :=
  .next (accTest subOp .a (.mem (.ind off)) s)

/-- `SBCA` (R212): subtract with borrow, accumulator A, indexed. -/
def execSbcaInd (off : Byte) (s : State) : Host.Outcome State Fault Refusal :=
  .next (accOp sbcOp .a (.mem (.ind off)) s)

/-- `SUBD` (R213): subtract from D, indexed. -/
def execSubdInd (off : Byte) (s : State) : Host.Outcome State Fault Refusal :=
  .next (subD (.mem (.ind off)) s)

/-- `ANDA` (R214): logical and, accumulator A, indexed. -/
def execAndaInd (off : Byte) (s : State) : Host.Outcome State Fault Refusal :=
  .next (accOp andOp .a (.mem (.ind off)) s)

/-- `BITA` (R215): bit test, accumulator A, indexed. -/
def execBitaInd (off : Byte) (s : State) : Host.Outcome State Fault Refusal :=
  .next (accTest andOp .a (.mem (.ind off)) s)

/-- `LDAA` (R216): load, accumulator A, indexed. -/
def execLdaaInd (off : Byte) (s : State) : Host.Outcome State Fault Refusal :=
  .next (accOp loadOp .a (.mem (.ind off)) s)

/-- `STAA` (R217): store A, indexed. -/
def execStaaInd (off : Byte) (s : State) : Host.Outcome State Fault Refusal :=
  .next (store8 s.a (.ind off) s)

/-- `EORA` (R218): exclusive or, accumulator A, indexed. -/
def execEoraInd (off : Byte) (s : State) : Host.Outcome State Fault Refusal :=
  .next (accOp eorOp .a (.mem (.ind off)) s)

/-- `ADCA` (R219): add with carry, accumulator A, indexed. -/
def execAdcaInd (off : Byte) (s : State) : Host.Outcome State Fault Refusal :=
  .next (accOp adcOp .a (.mem (.ind off)) s)

/-- `ORAA` (R220): inclusive or, accumulator A, indexed. -/
def execOraaInd (off : Byte) (s : State) : Host.Outcome State Fault Refusal :=
  .next (accOp oraOp .a (.mem (.ind off)) s)

/-- `ADDA` (R221): add, accumulator A, indexed. -/
def execAddaInd (off : Byte) (s : State) : Host.Outcome State Fault Refusal :=
  .next (accOp addOp .a (.mem (.ind off)) s)

/-- `CPX` (R222): compare X, indexed. -/
def execCpxInd (off : Byte) (s : State) : Host.Outcome State Fault Refusal :=
  .next (compareX (.mem (.ind off)) s)

/-- `JSR` (R224): call of the indexed address. -/
def execJsrInd (off : Byte) (s : State) : Host.Outcome State Fault Refusal :=
  .next (callTo (ea (.ind off) s) s)

/-- `LDS` (R225): load SP, indexed. -/
def execLdsInd (off : Byte) (s : State) : Host.Outcome State Fault Refusal :=
  .next (loadSP (.mem (.ind off)) s)

/-- `STS` (R226): store SP, indexed. -/
def execStsInd (off : Byte) (s : State) : Host.Outcome State Fault Refusal :=
  .next (store16 s.sp (.ind off) s)

/-- `SUBA` (R210): subtract, accumulator A, extended. -/
def execSubaExt (addr : Word) (s : State) : Host.Outcome State Fault Refusal :=
  .next (accOp subOp .a (.mem (.ext addr)) s)

/-- `CMPA` (R211): compare, accumulator A, extended. -/
def execCmpaExt (addr : Word) (s : State) : Host.Outcome State Fault Refusal :=
  .next (accTest subOp .a (.mem (.ext addr)) s)

/-- `SBCA` (R212): subtract with borrow, accumulator A, extended. -/
def execSbcaExt (addr : Word) (s : State) : Host.Outcome State Fault Refusal :=
  .next (accOp sbcOp .a (.mem (.ext addr)) s)

/-- `SUBD` (R213): subtract from D, extended. -/
def execSubdExt (addr : Word) (s : State) : Host.Outcome State Fault Refusal :=
  .next (subD (.mem (.ext addr)) s)

/-- `ANDA` (R214): logical and, accumulator A, extended. -/
def execAndaExt (addr : Word) (s : State) : Host.Outcome State Fault Refusal :=
  .next (accOp andOp .a (.mem (.ext addr)) s)

/-- `BITA` (R215): bit test, accumulator A, extended. -/
def execBitaExt (addr : Word) (s : State) : Host.Outcome State Fault Refusal :=
  .next (accTest andOp .a (.mem (.ext addr)) s)

/-- `LDAA` (R216): load, accumulator A, extended. -/
def execLdaaExt (addr : Word) (s : State) : Host.Outcome State Fault Refusal :=
  .next (accOp loadOp .a (.mem (.ext addr)) s)

/-- `STAA` (R217): store A, extended. -/
def execStaaExt (addr : Word) (s : State) : Host.Outcome State Fault Refusal :=
  .next (store8 s.a (.ext addr) s)

/-- `EORA` (R218): exclusive or, accumulator A, extended. -/
def execEoraExt (addr : Word) (s : State) : Host.Outcome State Fault Refusal :=
  .next (accOp eorOp .a (.mem (.ext addr)) s)

/-- `ADCA` (R219): add with carry, accumulator A, extended. -/
def execAdcaExt (addr : Word) (s : State) : Host.Outcome State Fault Refusal :=
  .next (accOp adcOp .a (.mem (.ext addr)) s)

/-- `ORAA` (R220): inclusive or, accumulator A, extended. -/
def execOraaExt (addr : Word) (s : State) : Host.Outcome State Fault Refusal :=
  .next (accOp oraOp .a (.mem (.ext addr)) s)

/-- `ADDA` (R221): add, accumulator A, extended. -/
def execAddaExt (addr : Word) (s : State) : Host.Outcome State Fault Refusal :=
  .next (accOp addOp .a (.mem (.ext addr)) s)

/-- `CPX` (R222): compare X, extended. -/
def execCpxExt (addr : Word) (s : State) : Host.Outcome State Fault Refusal :=
  .next (compareX (.mem (.ext addr)) s)

/-- `JSR` (R224): call of the extended address. -/
def execJsrExt (addr : Word) (s : State) : Host.Outcome State Fault Refusal :=
  .next (callTo (ea (.ext addr) s) s)

/-- `LDS` (R225): load SP, extended. -/
def execLdsExt (addr : Word) (s : State) : Host.Outcome State Fault Refusal :=
  .next (loadSP (.mem (.ext addr)) s)

/-- `STS` (R226): store SP, extended. -/
def execStsExt (addr : Word) (s : State) : Host.Outcome State Fault Refusal :=
  .next (store16 s.sp (.ext addr) s)

end Sys2Proof.Machine
end

