-- ==== Sys2Proof/Machine/AccB.lean ====
section
/-! DEFINITION. The accumulator B group, ADDD, LDD, STD, LDX and STX, opcodes C0 to FF (45_accb_cx_fx.md).
A meaning is given the state after the fetch, in which PC addresses the next instruction (00_scope.md
R14), and always answers a next state: no instruction of this machine can trap on its operands (R251). -/

namespace Sys2Proof.Machine

/-- `SUBB` (R230): subtract, accumulator B, immediate. -/
def execSubbImm (v : Byte) (s : State) : Host.Outcome State Fault Refusal :=
  .next (accOp subOp .b (.imm v) s)

/-- `CMPB` (R231): compare, accumulator B, immediate. -/
def execCmpbImm (v : Byte) (s : State) : Host.Outcome State Fault Refusal :=
  .next (accTest subOp .b (.imm v) s)

/-- `SBCB` (R232): subtract with borrow, accumulator B, immediate. -/
def execSbcbImm (v : Byte) (s : State) : Host.Outcome State Fault Refusal :=
  .next (accOp sbcOp .b (.imm v) s)

/-- `ADDD` (R233): add to D, immediate. -/
def execAdddImm (v : Word) (s : State) : Host.Outcome State Fault Refusal :=
  .next (addD (.imm v) s)

/-- `ANDB` (R234): logical and, accumulator B, immediate. -/
def execAndbImm (v : Byte) (s : State) : Host.Outcome State Fault Refusal :=
  .next (accOp andOp .b (.imm v) s)

/-- `BITB` (R235): bit test, accumulator B, immediate. -/
def execBitbImm (v : Byte) (s : State) : Host.Outcome State Fault Refusal :=
  .next (accTest andOp .b (.imm v) s)

/-- `LDAB` (R236): load, accumulator B, immediate. -/
def execLdabImm (v : Byte) (s : State) : Host.Outcome State Fault Refusal :=
  .next (accOp loadOp .b (.imm v) s)

/-- `EORB` (R238): exclusive or, accumulator B, immediate. -/
def execEorbImm (v : Byte) (s : State) : Host.Outcome State Fault Refusal :=
  .next (accOp eorOp .b (.imm v) s)

/-- `ADCB` (R239): add with carry, accumulator B, immediate. -/
def execAdcbImm (v : Byte) (s : State) : Host.Outcome State Fault Refusal :=
  .next (accOp adcOp .b (.imm v) s)

/-- `ORAB` (R240): inclusive or, accumulator B, immediate. -/
def execOrabImm (v : Byte) (s : State) : Host.Outcome State Fault Refusal :=
  .next (accOp oraOp .b (.imm v) s)

/-- `ADDB` (R241): add, accumulator B, immediate. -/
def execAddbImm (v : Byte) (s : State) : Host.Outcome State Fault Refusal :=
  .next (accOp addOp .b (.imm v) s)

/-- `LDD` (R242): load D, immediate. -/
def execLddImm (v : Word) (s : State) : Host.Outcome State Fault Refusal :=
  .next (loadD (.imm v) s)

/-- `LDX` (R244): load X, immediate. -/
def execLdxImm (v : Word) (s : State) : Host.Outcome State Fault Refusal :=
  .next (loadX (.imm v) s)

/-- `SUBB` (R230): subtract, accumulator B, direct. -/
def execSubbDir (d : Byte) (s : State) : Host.Outcome State Fault Refusal :=
  .next (accOp subOp .b (.mem (.dir d)) s)

/-- `CMPB` (R231): compare, accumulator B, direct. -/
def execCmpbDir (d : Byte) (s : State) : Host.Outcome State Fault Refusal :=
  .next (accTest subOp .b (.mem (.dir d)) s)

/-- `SBCB` (R232): subtract with borrow, accumulator B, direct. -/
def execSbcbDir (d : Byte) (s : State) : Host.Outcome State Fault Refusal :=
  .next (accOp sbcOp .b (.mem (.dir d)) s)

/-- `ADDD` (R233): add to D, direct. -/
def execAdddDir (d : Byte) (s : State) : Host.Outcome State Fault Refusal :=
  .next (addD (.mem (.dir d)) s)

/-- `ANDB` (R234): logical and, accumulator B, direct. -/
def execAndbDir (d : Byte) (s : State) : Host.Outcome State Fault Refusal :=
  .next (accOp andOp .b (.mem (.dir d)) s)

/-- `BITB` (R235): bit test, accumulator B, direct. -/
def execBitbDir (d : Byte) (s : State) : Host.Outcome State Fault Refusal :=
  .next (accTest andOp .b (.mem (.dir d)) s)

/-- `LDAB` (R236): load, accumulator B, direct. -/
def execLdabDir (d : Byte) (s : State) : Host.Outcome State Fault Refusal :=
  .next (accOp loadOp .b (.mem (.dir d)) s)

/-- `STAB` (R237): store B, direct. -/
def execStabDir (d : Byte) (s : State) : Host.Outcome State Fault Refusal :=
  .next (store8 s.b (.dir d) s)

/-- `EORB` (R238): exclusive or, accumulator B, direct. -/
def execEorbDir (d : Byte) (s : State) : Host.Outcome State Fault Refusal :=
  .next (accOp eorOp .b (.mem (.dir d)) s)

/-- `ADCB` (R239): add with carry, accumulator B, direct. -/
def execAdcbDir (d : Byte) (s : State) : Host.Outcome State Fault Refusal :=
  .next (accOp adcOp .b (.mem (.dir d)) s)

/-- `ORAB` (R240): inclusive or, accumulator B, direct. -/
def execOrabDir (d : Byte) (s : State) : Host.Outcome State Fault Refusal :=
  .next (accOp oraOp .b (.mem (.dir d)) s)

/-- `ADDB` (R241): add, accumulator B, direct. -/
def execAddbDir (d : Byte) (s : State) : Host.Outcome State Fault Refusal :=
  .next (accOp addOp .b (.mem (.dir d)) s)

/-- `LDD` (R242): load D, direct. -/
def execLddDir (d : Byte) (s : State) : Host.Outcome State Fault Refusal :=
  .next (loadD (.mem (.dir d)) s)

/-- `STD` (R243): store D, direct. -/
def execStdDir (d : Byte) (s : State) : Host.Outcome State Fault Refusal :=
  .next (store16 s.d (.dir d) s)

/-- `LDX` (R244): load X, direct. -/
def execLdxDir (d : Byte) (s : State) : Host.Outcome State Fault Refusal :=
  .next (loadX (.mem (.dir d)) s)

/-- `STX` (R245): store X, direct. -/
def execStxDir (d : Byte) (s : State) : Host.Outcome State Fault Refusal :=
  .next (store16 s.x (.dir d) s)

/-- `SUBB` (R230): subtract, accumulator B, indexed. -/
def execSubbInd (off : Byte) (s : State) : Host.Outcome State Fault Refusal :=
  .next (accOp subOp .b (.mem (.ind off)) s)

/-- `CMPB` (R231): compare, accumulator B, indexed. -/
def execCmpbInd (off : Byte) (s : State) : Host.Outcome State Fault Refusal :=
  .next (accTest subOp .b (.mem (.ind off)) s)

/-- `SBCB` (R232): subtract with borrow, accumulator B, indexed. -/
def execSbcbInd (off : Byte) (s : State) : Host.Outcome State Fault Refusal :=
  .next (accOp sbcOp .b (.mem (.ind off)) s)

/-- `ADDD` (R233): add to D, indexed. -/
def execAdddInd (off : Byte) (s : State) : Host.Outcome State Fault Refusal :=
  .next (addD (.mem (.ind off)) s)

/-- `ANDB` (R234): logical and, accumulator B, indexed. -/
def execAndbInd (off : Byte) (s : State) : Host.Outcome State Fault Refusal :=
  .next (accOp andOp .b (.mem (.ind off)) s)

/-- `BITB` (R235): bit test, accumulator B, indexed. -/
def execBitbInd (off : Byte) (s : State) : Host.Outcome State Fault Refusal :=
  .next (accTest andOp .b (.mem (.ind off)) s)

/-- `LDAB` (R236): load, accumulator B, indexed. -/
def execLdabInd (off : Byte) (s : State) : Host.Outcome State Fault Refusal :=
  .next (accOp loadOp .b (.mem (.ind off)) s)

/-- `STAB` (R237): store B, indexed. -/
def execStabInd (off : Byte) (s : State) : Host.Outcome State Fault Refusal :=
  .next (store8 s.b (.ind off) s)

/-- `EORB` (R238): exclusive or, accumulator B, indexed. -/
def execEorbInd (off : Byte) (s : State) : Host.Outcome State Fault Refusal :=
  .next (accOp eorOp .b (.mem (.ind off)) s)

/-- `ADCB` (R239): add with carry, accumulator B, indexed. -/
def execAdcbInd (off : Byte) (s : State) : Host.Outcome State Fault Refusal :=
  .next (accOp adcOp .b (.mem (.ind off)) s)

/-- `ORAB` (R240): inclusive or, accumulator B, indexed. -/
def execOrabInd (off : Byte) (s : State) : Host.Outcome State Fault Refusal :=
  .next (accOp oraOp .b (.mem (.ind off)) s)

/-- `ADDB` (R241): add, accumulator B, indexed. -/
def execAddbInd (off : Byte) (s : State) : Host.Outcome State Fault Refusal :=
  .next (accOp addOp .b (.mem (.ind off)) s)

/-- `LDD` (R242): load D, indexed. -/
def execLddInd (off : Byte) (s : State) : Host.Outcome State Fault Refusal :=
  .next (loadD (.mem (.ind off)) s)

/-- `STD` (R243): store D, indexed. -/
def execStdInd (off : Byte) (s : State) : Host.Outcome State Fault Refusal :=
  .next (store16 s.d (.ind off) s)

/-- `LDX` (R244): load X, indexed. -/
def execLdxInd (off : Byte) (s : State) : Host.Outcome State Fault Refusal :=
  .next (loadX (.mem (.ind off)) s)

/-- `STX` (R245): store X, indexed. -/
def execStxInd (off : Byte) (s : State) : Host.Outcome State Fault Refusal :=
  .next (store16 s.x (.ind off) s)

/-- `SUBB` (R230): subtract, accumulator B, extended. -/
def execSubbExt (addr : Word) (s : State) : Host.Outcome State Fault Refusal :=
  .next (accOp subOp .b (.mem (.ext addr)) s)

/-- `CMPB` (R231): compare, accumulator B, extended. -/
def execCmpbExt (addr : Word) (s : State) : Host.Outcome State Fault Refusal :=
  .next (accTest subOp .b (.mem (.ext addr)) s)

/-- `SBCB` (R232): subtract with borrow, accumulator B, extended. -/
def execSbcbExt (addr : Word) (s : State) : Host.Outcome State Fault Refusal :=
  .next (accOp sbcOp .b (.mem (.ext addr)) s)

/-- `ADDD` (R233): add to D, extended. -/
def execAdddExt (addr : Word) (s : State) : Host.Outcome State Fault Refusal :=
  .next (addD (.mem (.ext addr)) s)

/-- `ANDB` (R234): logical and, accumulator B, extended. -/
def execAndbExt (addr : Word) (s : State) : Host.Outcome State Fault Refusal :=
  .next (accOp andOp .b (.mem (.ext addr)) s)

/-- `BITB` (R235): bit test, accumulator B, extended. -/
def execBitbExt (addr : Word) (s : State) : Host.Outcome State Fault Refusal :=
  .next (accTest andOp .b (.mem (.ext addr)) s)

/-- `LDAB` (R236): load, accumulator B, extended. -/
def execLdabExt (addr : Word) (s : State) : Host.Outcome State Fault Refusal :=
  .next (accOp loadOp .b (.mem (.ext addr)) s)

/-- `STAB` (R237): store B, extended. -/
def execStabExt (addr : Word) (s : State) : Host.Outcome State Fault Refusal :=
  .next (store8 s.b (.ext addr) s)

/-- `EORB` (R238): exclusive or, accumulator B, extended. -/
def execEorbExt (addr : Word) (s : State) : Host.Outcome State Fault Refusal :=
  .next (accOp eorOp .b (.mem (.ext addr)) s)

/-- `ADCB` (R239): add with carry, accumulator B, extended. -/
def execAdcbExt (addr : Word) (s : State) : Host.Outcome State Fault Refusal :=
  .next (accOp adcOp .b (.mem (.ext addr)) s)

/-- `ORAB` (R240): inclusive or, accumulator B, extended. -/
def execOrabExt (addr : Word) (s : State) : Host.Outcome State Fault Refusal :=
  .next (accOp oraOp .b (.mem (.ext addr)) s)

/-- `ADDB` (R241): add, accumulator B, extended. -/
def execAddbExt (addr : Word) (s : State) : Host.Outcome State Fault Refusal :=
  .next (accOp addOp .b (.mem (.ext addr)) s)

/-- `LDD` (R242): load D, extended. -/
def execLddExt (addr : Word) (s : State) : Host.Outcome State Fault Refusal :=
  .next (loadD (.mem (.ext addr)) s)

/-- `STD` (R243): store D, extended. -/
def execStdExt (addr : Word) (s : State) : Host.Outcome State Fault Refusal :=
  .next (store16 s.d (.ext addr) s)

/-- `LDX` (R244): load X, extended. -/
def execLdxExt (addr : Word) (s : State) : Host.Outcome State Fault Refusal :=
  .next (loadX (.mem (.ext addr)) s)

/-- `STX` (R245): store X, extended. -/
def execStxExt (addr : Word) (s : State) : Host.Outcome State Fault Refusal :=
  .next (store16 s.x (.ext addr) s)

end Sys2Proof.Machine
end

