-- ==== Sys2Proof/Machine/Branches.lean ====
section
/-! DEFINITION. The relative branches, opcodes 20 to 2F (41_branches_2x.md).
A meaning is given the state after the fetch, in which PC addresses the next instruction (00_scope.md
R14), and always answers a next state: no instruction of this machine can trap on its operands (R251). -/

namespace Sys2Proof.Machine

/-- `BRA` (R131): branch always. -/
def execBra (rel : Byte) (s : State) : Host.Outcome State Fault Refusal :=
  .next (branchIf true rel s)

/-- `BRN` (R132): branch never. -/
def execBrn (rel : Byte) (s : State) : Host.Outcome State Fault Refusal :=
  .next (branchIf false rel s)

/-- `BHI` (R133): branch, taken when C | Z is 0. -/
def execBhi (rel : Byte) (s : State) : Host.Outcome State Fault Refusal :=
  .next (branchIf (!(s.ccr.c || s.ccr.z)) rel s)

/-- `BLS` (R134): branch, taken when C | Z is 1. -/
def execBls (rel : Byte) (s : State) : Host.Outcome State Fault Refusal :=
  .next (branchIf (s.ccr.c || s.ccr.z) rel s)

/-- `BCC` (R135): branch, taken when C is 0. -/
def execBcc (rel : Byte) (s : State) : Host.Outcome State Fault Refusal :=
  .next (branchIf (!s.ccr.c) rel s)

/-- `BCS` (R136): branch, taken when C is 1. -/
def execBcs (rel : Byte) (s : State) : Host.Outcome State Fault Refusal :=
  .next (branchIf s.ccr.c rel s)

/-- `BNE` (R137): branch, taken when Z is 0. -/
def execBne (rel : Byte) (s : State) : Host.Outcome State Fault Refusal :=
  .next (branchIf (!s.ccr.z) rel s)

/-- `BEQ` (R138): branch, taken when Z is 1. -/
def execBeq (rel : Byte) (s : State) : Host.Outcome State Fault Refusal :=
  .next (branchIf s.ccr.z rel s)

/-- `BVC` (R139): branch, taken when V is 0. -/
def execBvc (rel : Byte) (s : State) : Host.Outcome State Fault Refusal :=
  .next (branchIf (!s.ccr.v) rel s)

/-- `BVS` (R140): branch, taken when V is 1. -/
def execBvs (rel : Byte) (s : State) : Host.Outcome State Fault Refusal :=
  .next (branchIf s.ccr.v rel s)

/-- `BPL` (R141): branch, taken when N is 0. -/
def execBpl (rel : Byte) (s : State) : Host.Outcome State Fault Refusal :=
  .next (branchIf (!s.ccr.n) rel s)

/-- `BMI` (R142): branch, taken when N is 1. -/
def execBmi (rel : Byte) (s : State) : Host.Outcome State Fault Refusal :=
  .next (branchIf s.ccr.n rel s)

/-- `BGE` (R143): branch, taken when N ^ V is 0. -/
def execBge (rel : Byte) (s : State) : Host.Outcome State Fault Refusal :=
  .next (branchIf (!(s.ccr.n ^^ s.ccr.v)) rel s)

/-- `BLT` (R144): branch, taken when N ^ V is 1. -/
def execBlt (rel : Byte) (s : State) : Host.Outcome State Fault Refusal :=
  .next (branchIf (s.ccr.n ^^ s.ccr.v) rel s)

/-- `BGT` (R145): branch, taken when Z | (N ^ V) is 0. -/
def execBgt (rel : Byte) (s : State) : Host.Outcome State Fault Refusal :=
  .next (branchIf (!(s.ccr.z || (s.ccr.n ^^ s.ccr.v))) rel s)

/-- `BLE` (R146): branch, taken when Z | (N ^ V) is 1. -/
def execBle (rel : Byte) (s : State) : Host.Outcome State Fault Refusal :=
  .next (branchIf (s.ccr.z || (s.ccr.n ^^ s.ccr.v)) rel s)

end Sys2Proof.Machine
end

