-- ==== Sys2Proof/Machine/Inherent.lean ====
section
/-! DEFINITION. The inherent register and condition-code instructions, opcodes 00 to 1F (40_inherent_0x_1x.md).
A meaning is given the state after the fetch, in which PC addresses the next instruction (00_scope.md
R14), and always answers a next state: no instruction of this machine can trap on its operands (R251). -/

namespace Sys2Proof.Machine

/-- `NOP` (R110): changes nothing; PC has been advanced by the fetch. -/
def execNop (s : State) : Host.Outcome State Fault Refusal :=
  .next s

/-- `LSRD` (R111): logical shift right of D. -/
def execLsrd (s : State) : Host.Outcome State Fault Refusal :=
  .next (shiftRightD s)

/-- `ASLD` (R112): arithmetic shift left of D. -/
def execAsld (s : State) : Host.Outcome State Fault Refusal :=
  .next (shiftLeftD s)

/-- `TAP` (R113): CCR from A, bits 7 and 6 of A discarded. -/
def execTap (s : State) : Host.Outcome State Fault Refusal :=
  .next { s with ccr := CCR.ofByte s.a }

/-- `TPA` (R114): A from CCR, bits 7 and 6 as ones. -/
def execTpa (s : State) : Host.Outcome State Fault Refusal :=
  .next { s with a := s.ccr.toByte }

/-- `INX` (R115): X plus one modulo 2^16, Z alone. -/
def execInx (s : State) : Host.Outcome State Fault Refusal :=
  .next { s with x := s.x + 1, ccr := s.ccr.withZ (s.x + 1) }

/-- `DEX` (R116): X minus one modulo 2^16, Z alone. -/
def execDex (s : State) : Host.Outcome State Fault Refusal :=
  .next { s with x := s.x - 1, ccr := s.ccr.withZ (s.x - 1) }

/-- `CLV` (R117): V cleared. -/
def execClv (s : State) : Host.Outcome State Fault Refusal :=
  .next { s with ccr := { s.ccr with v := false } }

/-- `SEV` (R118): V set. -/
def execSev (s : State) : Host.Outcome State Fault Refusal :=
  .next { s with ccr := { s.ccr with v := true } }

/-- `CLC` (R119): C cleared. -/
def execClc (s : State) : Host.Outcome State Fault Refusal :=
  .next { s with ccr := { s.ccr with c := false } }

/-- `SEC` (R120): C set. -/
def execSec (s : State) : Host.Outcome State Fault Refusal :=
  .next { s with ccr := { s.ccr with c := true } }

/-- `CLI` (R121): the interrupt mask cleared; it counts from the next boundary (R257, log 16). -/
def execCli (s : State) : Host.Outcome State Fault Refusal :=
  .next { s with ccr := { s.ccr with i := false } }

/-- `SEI` (R122): the interrupt mask set. -/
def execSei (s : State) : Host.Outcome State Fault Refusal :=
  .next { s with ccr := { s.ccr with i := true } }

/-- `SBA` (R123): A minus B into A. -/
def execSba (s : State) : Host.Outcome State Fault Refusal :=
  .next (accOp subOp .a (.imm s.b) s)

/-- `CBA` (R124): the flags of A minus B. -/
def execCba (s : State) : Host.Outcome State Fault Refusal :=
  .next (accTest subOp .a (.imm s.b) s)

/-- `TAB` (R125): A into B. -/
def execTab (s : State) : Host.Outcome State Fault Refusal :=
  .next (accOp loadOp .b (.imm s.a) s)

/-- `TBA` (R126): B into A. -/
def execTba (s : State) : Host.Outcome State Fault Refusal :=
  .next (accOp loadOp .a (.imm s.b) s)

/-- `DAA` (R127): decimal adjust; V is a free value (U3, log 9). -/
def execDaa (s : State) : Host.Outcome State Fault Refusal :=
  .next (unaryAcc (daaOp (Config.freeBit s.draws)) .a { s with draws := s.draws + 1 })

/-- `ABA` (R128): A plus B into A. -/
def execAba (s : State) : Host.Outcome State Fault Refusal :=
  .next (accOp addOp .a (.imm s.b) s)

end Sys2Proof.Machine
end

