-- ==== Sys2Proof/Machine/Stack.lean ====
section
/-! DEFINITION. The stack, index, multiply and interrupt instructions, opcodes 30 to 3F (42_stack_index_3x.md).
A meaning is given the state after the fetch, in which PC addresses the next instruction (00_scope.md
R14), and always answers a next state: no instruction of this machine can trap on its operands (R251). -/

namespace Sys2Proof.Machine

/-- `TSX` (R150): X addresses the newest byte of the stack. -/
def execTsx (s : State) : Host.Outcome State Fault Refusal :=
  .next { s with x := s.sp + 1 }

/-- `INS` (R151): SP plus one, no flag. -/
def execIns (s : State) : Host.Outcome State Fault Refusal :=
  .next { s with sp := s.sp + 1 }

/-- `PULA` (R152): A pulled. -/
def execPula (s : State) : Host.Outcome State Fault Refusal :=
  .next { (pull8 s).2 with a := (pull8 s).1 }

/-- `PULB` (R153): B pulled. -/
def execPulb (s : State) : Host.Outcome State Fault Refusal :=
  .next { (pull8 s).2 with b := (pull8 s).1 }

/-- `DES` (R154): SP minus one, no flag. -/
def execDes (s : State) : Host.Outcome State Fault Refusal :=
  .next { s with sp := s.sp - 1 }

/-- `TXS` (R155): the inverse of TSX. -/
def execTxs (s : State) : Host.Outcome State Fault Refusal :=
  .next { s with sp := s.x - 1 }

/-- `PSHA` (R156): A pushed. -/
def execPsha (s : State) : Host.Outcome State Fault Refusal :=
  .next (push8 s.a s)

/-- `PSHB` (R157): B pushed. -/
def execPshb (s : State) : Host.Outcome State Fault Refusal :=
  .next (push8 s.b s)

/-- `PULX` (R158): X pulled, high byte first. -/
def execPulx (s : State) : Host.Outcome State Fault Refusal :=
  .next { (pull16 s).2 with x := (pull16 s).1 }

/-- `RTS` (R159): PC pulled, high byte first. -/
def execRts (s : State) : Host.Outcome State Fault Refusal :=
  .next { (pull16 s).2 with pc := (pull16 s).1 }

/-- `ABX` (R160): B, unsigned, added to X; no flag. -/
def execAbx (s : State) : Host.Outcome State Fault Refusal :=
  .next { s with x := s.x + zext16 s.b }

/-- `RTI` (R161): the frame pulled: CCR, B, A, X, PC. -/
def execRti (s : State) : Host.Outcome State Fault Refusal :=
  .next (returnFromException s)

/-- `PSHX` (R162): X pushed, low byte first. -/
def execPshx (s : State) : Host.Outcome State Fault Refusal :=
  .next (push16 s.x s)

/-- `MUL` (R163): A times B into D, C alone. -/
def execMul (s : State) : Host.Outcome State Fault Refusal :=
  .next (multiply s)

/-- `WAI` (R164): the frame pushed and the wait entered; I not changed (R260). -/
def execWai (s : State) : Host.Outcome State Fault Refusal :=
  .next { stackAll s with waiting := true }

/-- `SWI` (R165): the frame pushed with the old I, I set, PC from `VEC.swi` (R259). -/
def execSwi (s : State) : Host.Outcome State Fault Refusal :=
  .next (enterHandler s.platform.vecSwi (stackAll s))

end Sys2Proof.Machine
end

