-- ==== Sys2Proof/Machine/Unary.lean ====
section
/-! DEFINITION. The single-operand instructions on A, B and memory, and JMP, opcodes 40 to 7F (43_unary_4x_7x.md).
A meaning is given the state after the fetch, in which PC addresses the next instruction (00_scope.md
R14), and always answers a next state: no instruction of this machine can trap on its operands (R251). -/

namespace Sys2Proof.Machine

/-- `NEGA` (R171): two's complement negation of A. -/
def execNega (s : State) : Host.Outcome State Fault Refusal :=
  .next (unaryAcc negOp .a s)

/-- `COMA` (R172): one's complement of A. -/
def execComa (s : State) : Host.Outcome State Fault Refusal :=
  .next (unaryAcc comOp .a s)

/-- `LSRA` (R173): logical shift right of A. -/
def execLsra (s : State) : Host.Outcome State Fault Refusal :=
  .next (unaryAcc lsrOp .a s)

/-- `RORA` (R174): rotate right through C of A. -/
def execRora (s : State) : Host.Outcome State Fault Refusal :=
  .next (unaryAcc rorOp .a s)

/-- `ASRA` (R175): arithmetic shift right of A. -/
def execAsra (s : State) : Host.Outcome State Fault Refusal :=
  .next (unaryAcc asrOp .a s)

/-- `ASLA` (R176): arithmetic shift left of A. -/
def execAsla (s : State) : Host.Outcome State Fault Refusal :=
  .next (unaryAcc aslOp .a s)

/-- `ROLA` (R177): rotate left through C of A. -/
def execRola (s : State) : Host.Outcome State Fault Refusal :=
  .next (unaryAcc rolOp .a s)

/-- `DECA` (R178): decrement of A. -/
def execDeca (s : State) : Host.Outcome State Fault Refusal :=
  .next (unaryAcc decOp .a s)

/-- `INCA` (R179): increment of A. -/
def execInca (s : State) : Host.Outcome State Fault Refusal :=
  .next (unaryAcc incOp .a s)

/-- `TSTA` (R180): test against zero of A. -/
def execTsta (s : State) : Host.Outcome State Fault Refusal :=
  .next (testAcc tstOp .a s)

/-- `CLRA` (R181): clear of A. -/
def execClra (s : State) : Host.Outcome State Fault Refusal :=
  .next (unaryAcc clrOp .a s)

/-- `NEGB` (R182): two's complement negation of B. -/
def execNegb (s : State) : Host.Outcome State Fault Refusal :=
  .next (unaryAcc negOp .b s)

/-- `COMB` (R183): one's complement of B. -/
def execComb (s : State) : Host.Outcome State Fault Refusal :=
  .next (unaryAcc comOp .b s)

/-- `LSRB` (R184): logical shift right of B. -/
def execLsrb (s : State) : Host.Outcome State Fault Refusal :=
  .next (unaryAcc lsrOp .b s)

/-- `RORB` (R185): rotate right through C of B. -/
def execRorb (s : State) : Host.Outcome State Fault Refusal :=
  .next (unaryAcc rorOp .b s)

/-- `ASRB` (R186): arithmetic shift right of B. -/
def execAsrb (s : State) : Host.Outcome State Fault Refusal :=
  .next (unaryAcc asrOp .b s)

/-- `ASLB` (R187): arithmetic shift left of B. -/
def execAslb (s : State) : Host.Outcome State Fault Refusal :=
  .next (unaryAcc aslOp .b s)

/-- `ROLB` (R188): rotate left through C of B. -/
def execRolb (s : State) : Host.Outcome State Fault Refusal :=
  .next (unaryAcc rolOp .b s)

/-- `DECB` (R189): decrement of B. -/
def execDecb (s : State) : Host.Outcome State Fault Refusal :=
  .next (unaryAcc decOp .b s)

/-- `INCB` (R190): increment of B. -/
def execIncb (s : State) : Host.Outcome State Fault Refusal :=
  .next (unaryAcc incOp .b s)

/-- `TSTB` (R191): test against zero of B. -/
def execTstb (s : State) : Host.Outcome State Fault Refusal :=
  .next (testAcc tstOp .b s)

/-- `CLRB` (R192): clear of B. -/
def execClrb (s : State) : Host.Outcome State Fault Refusal :=
  .next (unaryAcc clrOp .b s)

/-- `NEG` (R193): two's complement negation of a memory byte, indexed. -/
def execNegInd (off : Byte) (s : State) : Host.Outcome State Fault Refusal :=
  .next (unaryMem negOp (.ind off) s)

/-- `COM` (R194): one's complement of a memory byte, indexed. -/
def execComInd (off : Byte) (s : State) : Host.Outcome State Fault Refusal :=
  .next (unaryMem comOp (.ind off) s)

/-- `LSR` (R195): logical shift right of a memory byte, indexed. -/
def execLsrInd (off : Byte) (s : State) : Host.Outcome State Fault Refusal :=
  .next (unaryMem lsrOp (.ind off) s)

/-- `ROR` (R196): rotate right through C of a memory byte, indexed. -/
def execRorInd (off : Byte) (s : State) : Host.Outcome State Fault Refusal :=
  .next (unaryMem rorOp (.ind off) s)

/-- `ASR` (R197): arithmetic shift right of a memory byte, indexed. -/
def execAsrInd (off : Byte) (s : State) : Host.Outcome State Fault Refusal :=
  .next (unaryMem asrOp (.ind off) s)

/-- `ASL` (R198): arithmetic shift left of a memory byte, indexed. -/
def execAslInd (off : Byte) (s : State) : Host.Outcome State Fault Refusal :=
  .next (unaryMem aslOp (.ind off) s)

/-- `ROL` (R199): rotate left through C of a memory byte, indexed. -/
def execRolInd (off : Byte) (s : State) : Host.Outcome State Fault Refusal :=
  .next (unaryMem rolOp (.ind off) s)

/-- `DEC` (R200): decrement of a memory byte, indexed. -/
def execDecInd (off : Byte) (s : State) : Host.Outcome State Fault Refusal :=
  .next (unaryMem decOp (.ind off) s)

/-- `INC` (R201): increment of a memory byte, indexed. -/
def execIncInd (off : Byte) (s : State) : Host.Outcome State Fault Refusal :=
  .next (unaryMem incOp (.ind off) s)

/-- `TST` (R202): test against zero of a memory byte, indexed. -/
def execTstInd (off : Byte) (s : State) : Host.Outcome State Fault Refusal :=
  .next (testMem tstOp (.ind off) s)

/-- `JMP` (R203): jump to the indexed address. -/
def execJmpInd (off : Byte) (s : State) : Host.Outcome State Fault Refusal :=
  .next { s with pc := ea (.ind off) s }

/-- `CLR` (R204): clear of a memory byte, indexed. -/
def execClrInd (off : Byte) (s : State) : Host.Outcome State Fault Refusal :=
  .next (unaryMem clrOp (.ind off) s)

/-- `NEG` (R193): two's complement negation of a memory byte, extended. -/
def execNegExt (addr : Word) (s : State) : Host.Outcome State Fault Refusal :=
  .next (unaryMem negOp (.ext addr) s)

/-- `COM` (R194): one's complement of a memory byte, extended. -/
def execComExt (addr : Word) (s : State) : Host.Outcome State Fault Refusal :=
  .next (unaryMem comOp (.ext addr) s)

/-- `LSR` (R195): logical shift right of a memory byte, extended. -/
def execLsrExt (addr : Word) (s : State) : Host.Outcome State Fault Refusal :=
  .next (unaryMem lsrOp (.ext addr) s)

/-- `ROR` (R196): rotate right through C of a memory byte, extended. -/
def execRorExt (addr : Word) (s : State) : Host.Outcome State Fault Refusal :=
  .next (unaryMem rorOp (.ext addr) s)

/-- `ASR` (R197): arithmetic shift right of a memory byte, extended. -/
def execAsrExt (addr : Word) (s : State) : Host.Outcome State Fault Refusal :=
  .next (unaryMem asrOp (.ext addr) s)

/-- `ASL` (R198): arithmetic shift left of a memory byte, extended. -/
def execAslExt (addr : Word) (s : State) : Host.Outcome State Fault Refusal :=
  .next (unaryMem aslOp (.ext addr) s)

/-- `ROL` (R199): rotate left through C of a memory byte, extended. -/
def execRolExt (addr : Word) (s : State) : Host.Outcome State Fault Refusal :=
  .next (unaryMem rolOp (.ext addr) s)

/-- `DEC` (R200): decrement of a memory byte, extended. -/
def execDecExt (addr : Word) (s : State) : Host.Outcome State Fault Refusal :=
  .next (unaryMem decOp (.ext addr) s)

/-- `INC` (R201): increment of a memory byte, extended. -/
def execIncExt (addr : Word) (s : State) : Host.Outcome State Fault Refusal :=
  .next (unaryMem incOp (.ext addr) s)

/-- `TST` (R202): test against zero of a memory byte, extended. -/
def execTstExt (addr : Word) (s : State) : Host.Outcome State Fault Refusal :=
  .next (testMem tstOp (.ext addr) s)

/-- `JMP` (R203): jump to the extended address. -/
def execJmpExt (addr : Word) (s : State) : Host.Outcome State Fault Refusal :=
  .next { s with pc := ea (.ext addr) s }

/-- `CLR` (R204): clear of a memory byte, extended. -/
def execClrExt (addr : Word) (s : State) : Host.Outcome State Fault Refusal :=
  .next (unaryMem clrOp (.ext addr) s)

end Sys2Proof.Machine
end

