-- ==== Sys2Proof/Machine/Dispatch.lean ====
section
/-! DEFINITION. The meaning of every instruction: one arm per constructor of Instr. -/

namespace Sys2Proof.Machine

def exec (i : Instr) (s : State) : Host.Outcome State Fault Refusal :=
  match i with
  | .nop => Sys2Proof.Machine.execNop s
  | .lsrd => Sys2Proof.Machine.execLsrd s
  | .asld => Sys2Proof.Machine.execAsld s
  | .tap => Sys2Proof.Machine.execTap s
  | .tpa => Sys2Proof.Machine.execTpa s
  | .inx => Sys2Proof.Machine.execInx s
  | .dex => Sys2Proof.Machine.execDex s
  | .clv => Sys2Proof.Machine.execClv s
  | .sev => Sys2Proof.Machine.execSev s
  | .clc => Sys2Proof.Machine.execClc s
  | .sec => Sys2Proof.Machine.execSec s
  | .cli => Sys2Proof.Machine.execCli s
  | .sei => Sys2Proof.Machine.execSei s
  | .sba => Sys2Proof.Machine.execSba s
  | .cba => Sys2Proof.Machine.execCba s
  | .tab => Sys2Proof.Machine.execTab s
  | .tba => Sys2Proof.Machine.execTba s
  | .daa => Sys2Proof.Machine.execDaa s
  | .aba => Sys2Proof.Machine.execAba s
  | .bra rel => Sys2Proof.Machine.execBra rel s
  | .brn rel => Sys2Proof.Machine.execBrn rel s
  | .bhi rel => Sys2Proof.Machine.execBhi rel s
  | .bls rel => Sys2Proof.Machine.execBls rel s
  | .bcc rel => Sys2Proof.Machine.execBcc rel s
  | .bcs rel => Sys2Proof.Machine.execBcs rel s
  | .bne rel => Sys2Proof.Machine.execBne rel s
  | .beq rel => Sys2Proof.Machine.execBeq rel s
  | .bvc rel => Sys2Proof.Machine.execBvc rel s
  | .bvs rel => Sys2Proof.Machine.execBvs rel s
  | .bpl rel => Sys2Proof.Machine.execBpl rel s
  | .bmi rel => Sys2Proof.Machine.execBmi rel s
  | .bge rel => Sys2Proof.Machine.execBge rel s
  | .blt rel => Sys2Proof.Machine.execBlt rel s
  | .bgt rel => Sys2Proof.Machine.execBgt rel s
  | .ble rel => Sys2Proof.Machine.execBle rel s
  | .tsx => Sys2Proof.Machine.execTsx s
  | .ins => Sys2Proof.Machine.execIns s
  | .pula => Sys2Proof.Machine.execPula s
  | .pulb => Sys2Proof.Machine.execPulb s
  | .des => Sys2Proof.Machine.execDes s
  | .txs => Sys2Proof.Machine.execTxs s
  | .psha => Sys2Proof.Machine.execPsha s
  | .pshb => Sys2Proof.Machine.execPshb s
  | .pulx => Sys2Proof.Machine.execPulx s
  | .rts => Sys2Proof.Machine.execRts s
  | .abx => Sys2Proof.Machine.execAbx s
  | .rti => Sys2Proof.Machine.execRti s
  | .pshx => Sys2Proof.Machine.execPshx s
  | .mul => Sys2Proof.Machine.execMul s
  | .wai => Sys2Proof.Machine.execWai s
  | .swi => Sys2Proof.Machine.execSwi s
  | .nega => Sys2Proof.Machine.execNega s
  | .coma => Sys2Proof.Machine.execComa s
  | .lsra => Sys2Proof.Machine.execLsra s
  | .rora => Sys2Proof.Machine.execRora s
  | .asra => Sys2Proof.Machine.execAsra s
  | .asla => Sys2Proof.Machine.execAsla s
  | .rola => Sys2Proof.Machine.execRola s
  | .deca => Sys2Proof.Machine.execDeca s
  | .inca => Sys2Proof.Machine.execInca s
  | .tsta => Sys2Proof.Machine.execTsta s
  | .clra => Sys2Proof.Machine.execClra s
  | .negb => Sys2Proof.Machine.execNegb s
  | .comb => Sys2Proof.Machine.execComb s
  | .lsrb => Sys2Proof.Machine.execLsrb s
  | .rorb => Sys2Proof.Machine.execRorb s
  | .asrb => Sys2Proof.Machine.execAsrb s
  | .aslb => Sys2Proof.Machine.execAslb s
  | .rolb => Sys2Proof.Machine.execRolb s
  | .decb => Sys2Proof.Machine.execDecb s
  | .incb => Sys2Proof.Machine.execIncb s
  | .tstb => Sys2Proof.Machine.execTstb s
  | .clrb => Sys2Proof.Machine.execClrb s
  | .negInd off => Sys2Proof.Machine.execNegInd off s
  | .comInd off => Sys2Proof.Machine.execComInd off s
  | .lsrInd off => Sys2Proof.Machine.execLsrInd off s
  | .rorInd off => Sys2Proof.Machine.execRorInd off s
  | .asrInd off => Sys2Proof.Machine.execAsrInd off s
  | .aslInd off => Sys2Proof.Machine.execAslInd off s
  | .rolInd off => Sys2Proof.Machine.execRolInd off s
  | .decInd off => Sys2Proof.Machine.execDecInd off s
  | .incInd off => Sys2Proof.Machine.execIncInd off s
  | .tstInd off => Sys2Proof.Machine.execTstInd off s
  | .jmpInd off => Sys2Proof.Machine.execJmpInd off s
  | .clrInd off => Sys2Proof.Machine.execClrInd off s
  | .negExt addr => Sys2Proof.Machine.execNegExt addr s
  | .comExt addr => Sys2Proof.Machine.execComExt addr s
  | .lsrExt addr => Sys2Proof.Machine.execLsrExt addr s
  | .rorExt addr => Sys2Proof.Machine.execRorExt addr s
  | .asrExt addr => Sys2Proof.Machine.execAsrExt addr s
  | .aslExt addr => Sys2Proof.Machine.execAslExt addr s
  | .rolExt addr => Sys2Proof.Machine.execRolExt addr s
  | .decExt addr => Sys2Proof.Machine.execDecExt addr s
  | .incExt addr => Sys2Proof.Machine.execIncExt addr s
  | .tstExt addr => Sys2Proof.Machine.execTstExt addr s
  | .jmpExt addr => Sys2Proof.Machine.execJmpExt addr s
  | .clrExt addr => Sys2Proof.Machine.execClrExt addr s
  | .subaImm v => Sys2Proof.Machine.execSubaImm v s
  | .cmpaImm v => Sys2Proof.Machine.execCmpaImm v s
  | .sbcaImm v => Sys2Proof.Machine.execSbcaImm v s
  | .subdImm v => Sys2Proof.Machine.execSubdImm v s
  | .andaImm v => Sys2Proof.Machine.execAndaImm v s
  | .bitaImm v => Sys2Proof.Machine.execBitaImm v s
  | .ldaaImm v => Sys2Proof.Machine.execLdaaImm v s
  | .eoraImm v => Sys2Proof.Machine.execEoraImm v s
  | .adcaImm v => Sys2Proof.Machine.execAdcaImm v s
  | .oraaImm v => Sys2Proof.Machine.execOraaImm v s
  | .addaImm v => Sys2Proof.Machine.execAddaImm v s
  | .cpxImm v => Sys2Proof.Machine.execCpxImm v s
  | .bsr rel => Sys2Proof.Machine.execBsr rel s
  | .ldsImm v => Sys2Proof.Machine.execLdsImm v s
  | .subaDir d => Sys2Proof.Machine.execSubaDir d s
  | .cmpaDir d => Sys2Proof.Machine.execCmpaDir d s
  | .sbcaDir d => Sys2Proof.Machine.execSbcaDir d s
  | .subdDir d => Sys2Proof.Machine.execSubdDir d s
  | .andaDir d => Sys2Proof.Machine.execAndaDir d s
  | .bitaDir d => Sys2Proof.Machine.execBitaDir d s
  | .ldaaDir d => Sys2Proof.Machine.execLdaaDir d s
  | .staaDir d => Sys2Proof.Machine.execStaaDir d s
  | .eoraDir d => Sys2Proof.Machine.execEoraDir d s
  | .adcaDir d => Sys2Proof.Machine.execAdcaDir d s
  | .oraaDir d => Sys2Proof.Machine.execOraaDir d s
  | .addaDir d => Sys2Proof.Machine.execAddaDir d s
  | .cpxDir d => Sys2Proof.Machine.execCpxDir d s
  | .jsrDir d => Sys2Proof.Machine.execJsrDir d s
  | .ldsDir d => Sys2Proof.Machine.execLdsDir d s
  | .stsDir d => Sys2Proof.Machine.execStsDir d s
  | .subaInd off => Sys2Proof.Machine.execSubaInd off s
  | .cmpaInd off => Sys2Proof.Machine.execCmpaInd off s
  | .sbcaInd off => Sys2Proof.Machine.execSbcaInd off s
  | .subdInd off => Sys2Proof.Machine.execSubdInd off s
  | .andaInd off => Sys2Proof.Machine.execAndaInd off s
  | .bitaInd off => Sys2Proof.Machine.execBitaInd off s
  | .ldaaInd off => Sys2Proof.Machine.execLdaaInd off s
  | .staaInd off => Sys2Proof.Machine.execStaaInd off s
  | .eoraInd off => Sys2Proof.Machine.execEoraInd off s
  | .adcaInd off => Sys2Proof.Machine.execAdcaInd off s
  | .oraaInd off => Sys2Proof.Machine.execOraaInd off s
  | .addaInd off => Sys2Proof.Machine.execAddaInd off s
  | .cpxInd off => Sys2Proof.Machine.execCpxInd off s
  | .jsrInd off => Sys2Proof.Machine.execJsrInd off s
  | .ldsInd off => Sys2Proof.Machine.execLdsInd off s
  | .stsInd off => Sys2Proof.Machine.execStsInd off s
  | .subaExt addr => Sys2Proof.Machine.execSubaExt addr s
  | .cmpaExt addr => Sys2Proof.Machine.execCmpaExt addr s
  | .sbcaExt addr => Sys2Proof.Machine.execSbcaExt addr s
  | .subdExt addr => Sys2Proof.Machine.execSubdExt addr s
  | .andaExt addr => Sys2Proof.Machine.execAndaExt addr s
  | .bitaExt addr => Sys2Proof.Machine.execBitaExt addr s
  | .ldaaExt addr => Sys2Proof.Machine.execLdaaExt addr s
  | .staaExt addr => Sys2Proof.Machine.execStaaExt addr s
  | .eoraExt addr => Sys2Proof.Machine.execEoraExt addr s
  | .adcaExt addr => Sys2Proof.Machine.execAdcaExt addr s
  | .oraaExt addr => Sys2Proof.Machine.execOraaExt addr s
  | .addaExt addr => Sys2Proof.Machine.execAddaExt addr s
  | .cpxExt addr => Sys2Proof.Machine.execCpxExt addr s
  | .jsrExt addr => Sys2Proof.Machine.execJsrExt addr s
  | .ldsExt addr => Sys2Proof.Machine.execLdsExt addr s
  | .stsExt addr => Sys2Proof.Machine.execStsExt addr s
  | .subbImm v => Sys2Proof.Machine.execSubbImm v s
  | .cmpbImm v => Sys2Proof.Machine.execCmpbImm v s
  | .sbcbImm v => Sys2Proof.Machine.execSbcbImm v s
  | .adddImm v => Sys2Proof.Machine.execAdddImm v s
  | .andbImm v => Sys2Proof.Machine.execAndbImm v s
  | .bitbImm v => Sys2Proof.Machine.execBitbImm v s
  | .ldabImm v => Sys2Proof.Machine.execLdabImm v s
  | .eorbImm v => Sys2Proof.Machine.execEorbImm v s
  | .adcbImm v => Sys2Proof.Machine.execAdcbImm v s
  | .orabImm v => Sys2Proof.Machine.execOrabImm v s
  | .addbImm v => Sys2Proof.Machine.execAddbImm v s
  | .lddImm v => Sys2Proof.Machine.execLddImm v s
  | .ldxImm v => Sys2Proof.Machine.execLdxImm v s
  | .subbDir d => Sys2Proof.Machine.execSubbDir d s
  | .cmpbDir d => Sys2Proof.Machine.execCmpbDir d s
  | .sbcbDir d => Sys2Proof.Machine.execSbcbDir d s
  | .adddDir d => Sys2Proof.Machine.execAdddDir d s
  | .andbDir d => Sys2Proof.Machine.execAndbDir d s
  | .bitbDir d => Sys2Proof.Machine.execBitbDir d s
  | .ldabDir d => Sys2Proof.Machine.execLdabDir d s
  | .stabDir d => Sys2Proof.Machine.execStabDir d s
  | .eorbDir d => Sys2Proof.Machine.execEorbDir d s
  | .adcbDir d => Sys2Proof.Machine.execAdcbDir d s
  | .orabDir d => Sys2Proof.Machine.execOrabDir d s
  | .addbDir d => Sys2Proof.Machine.execAddbDir d s
  | .lddDir d => Sys2Proof.Machine.execLddDir d s
  | .stdDir d => Sys2Proof.Machine.execStdDir d s
  | .ldxDir d => Sys2Proof.Machine.execLdxDir d s
  | .stxDir d => Sys2Proof.Machine.execStxDir d s
  | .subbInd off => Sys2Proof.Machine.execSubbInd off s
  | .cmpbInd off => Sys2Proof.Machine.execCmpbInd off s
  | .sbcbInd off => Sys2Proof.Machine.execSbcbInd off s
  | .adddInd off => Sys2Proof.Machine.execAdddInd off s
  | .andbInd off => Sys2Proof.Machine.execAndbInd off s
  | .bitbInd off => Sys2Proof.Machine.execBitbInd off s
  | .ldabInd off => Sys2Proof.Machine.execLdabInd off s
  | .stabInd off => Sys2Proof.Machine.execStabInd off s
  | .eorbInd off => Sys2Proof.Machine.execEorbInd off s
  | .adcbInd off => Sys2Proof.Machine.execAdcbInd off s
  | .orabInd off => Sys2Proof.Machine.execOrabInd off s
  | .addbInd off => Sys2Proof.Machine.execAddbInd off s
  | .lddInd off => Sys2Proof.Machine.execLddInd off s
  | .stdInd off => Sys2Proof.Machine.execStdInd off s
  | .ldxInd off => Sys2Proof.Machine.execLdxInd off s
  | .stxInd off => Sys2Proof.Machine.execStxInd off s
  | .subbExt addr => Sys2Proof.Machine.execSubbExt addr s
  | .cmpbExt addr => Sys2Proof.Machine.execCmpbExt addr s
  | .sbcbExt addr => Sys2Proof.Machine.execSbcbExt addr s
  | .adddExt addr => Sys2Proof.Machine.execAdddExt addr s
  | .andbExt addr => Sys2Proof.Machine.execAndbExt addr s
  | .bitbExt addr => Sys2Proof.Machine.execBitbExt addr s
  | .ldabExt addr => Sys2Proof.Machine.execLdabExt addr s
  | .stabExt addr => Sys2Proof.Machine.execStabExt addr s
  | .eorbExt addr => Sys2Proof.Machine.execEorbExt addr s
  | .adcbExt addr => Sys2Proof.Machine.execAdcbExt addr s
  | .orabExt addr => Sys2Proof.Machine.execOrabExt addr s
  | .addbExt addr => Sys2Proof.Machine.execAddbExt addr s
  | .lddExt addr => Sys2Proof.Machine.execLddExt addr s
  | .stdExt addr => Sys2Proof.Machine.execStdExt addr s
  | .ldxExt addr => Sys2Proof.Machine.execLdxExt addr s
  | .stxExt addr => Sys2Proof.Machine.execStxExt addr s

end Sys2Proof.Machine
end

