-- ==== Sys2Proof/Machine/Boundary.lean ====
section
/-! DEFINITION. What happens at one instruction boundary: reset, interrupt recognition, the wait, or
one instruction (00_scope.md R14; 60_exceptions.md R257, R258, R260, R270; 70_reset_and_hazards.md R280,
R281). -/

namespace Sys2Proof.Machine

/-- A boundary at which the environment presents nothing (R37). -/
def quietBoundary : Boundary := { reset := none, asserted := [] }

/-- What the environment presents at this boundary; after the list's end, nothing (R37, log 6). -/
def presented (s : State) : Boundary := s.inputs.headD quietBoundary

/-- The state a step starts from: this boundary's inputs are used up, and nothing has been accessed yet
(log 6, log 13). -/
def beginStep (s : State) : State := { s with inputs := s.inputs.tail, bus := [] }

/-- Whether a source is asserted and not inhibited: `s in P` and `s.maskable == false or I == 0`
(R257). -/
def isEligible (asserted : List SourceName) (mask : Bool) (src : IntSource) : Bool :=
  asserted.contains src.name && (!src.maskable || !mask)

/-- The eligible source of highest priority, the first in the order of `IntSources` (R257, R270). -/
def eligibleSource (asserted : List SourceName) (s : State) : Option IntSource :=
  s.platform.sources.find? (isEligible asserted s.ccr.i)

/-- The first of PC, X and SP that points at an address whose read has a side effect (R57, U8, log 11). -/
def pointerAtEffect (s : State) : Option Word :=
  [s.pc, s.x, s.sp].find? (hasReadEffect s.platform)

/-- The address of an access. -/
def accessAddr (e : Access) : Word :=
  match e with
  | .read addr _ => addr
  | .write addr _ => addr

/-- The first access of the step to an address whose read has a side effect (R57, U8, log 11). -/
def accessAtEffect (s : State) : Option Word :=
  (s.bus.map accessAddr).find? (hasReadEffect s.platform)

/-- A step that reached an address whose read has a side effect is refused (R57, U8, log 11). -/
def guardBus (o : Host.Outcome State Fault Refusal) : Host.Outcome State Fault Refusal :=
  match o with
  | .next t =>
    match accessAtEffect t with
    | some addr => .refused (.busActivityUnknown addr)
    | none => .next t
  | .fault e => .fault e
  | .refused e => .refused e

/-- Fetch and execute one instruction (R14). -/
def runInstruction (s : State) : Host.Outcome State Fault Refusal :=
  match fetchInstr s with
  | .error op => .fault (.illegalOpcode op s.pc)
  | .ok (i, t) => exec i t

/-- What a step does when reset is not asserted: take the eligible interrupt of highest priority
(R257, R258); else, in the wait, nothing (R260); else one instruction. A program that has pointed PC, X or
SP at an address whose read has a side effect is refused before any of these (R57, log 11). -/
def runBoundary (asserted : List SourceName) (s : State) : Host.Outcome State Fault Refusal :=
  match pointerAtEffect s with
  | some addr => .refused (.busActivityUnknown addr)
  | none =>
    match eligibleSource asserted s with
    | some src => .next (takeException src.vector s)
    | none => if s.waiting then .next s else runInstruction s

/-- The accesses of what a step does without reset, oldest first. Where it stops at an unassigned opcode,
the one access is the fetch of that byte (R14); where it is refused, so is a reset that cuts it (R57). -/
def accessesOf (asserted : List SourceName) (s : State) : Except Refusal (List Access) :=
  match guardBus (runBoundary asserted s) with
  | .next t => .ok t.bus
  | .fault _ => .ok (fetch8 s).2.bus
  | .refused e => .error e

/-- The accesses completed when reset is asserted after the first `k` of them (R281, log 8). At the
boundary itself, `k = 0`, nothing of the step has begun. -/
def completedAccesses (k : Nat) (asserted : List SourceName) (s : State) :
    Except Refusal (List Access) :=
  match k with
  | 0 => .ok []
  | n + 1 => (accessesOf asserted s).map (List.take (n + 1))

/-- A reset asserted after the first `k` accesses of what the step would have done: those accesses have
completed, and nothing else of it has (R281, log 8). -/
def resetAfter (k : Nat) (asserted : List SourceName) (s : State) : Host.Outcome State Fault Refusal :=
  match completedAccesses k asserted s with
  | .ok es => .next (resetEvent (replay es s))
  | .error e => .refused e

/-- One boundary: reset overrides everything (R270, R280). -/
def stepBoundary (s : State) : Host.Outcome State Fault Refusal :=
  let p := presented s
  let s0 := beginStep s
  guardBus
    (match p.reset with
     | some k => resetAfter k p.asserted s0
     | none => runBoundary p.asserted s0)

/-! ### A program placed for the next fetch -/

/-- The address holds a byte that a fetch returns (R60). -/
def fetchable (p : Platform) (a : Word) : Bool := (kindAt p a).holdsByte

/-- The three bytes of a word numbered as spec/opcode_table.json numbers them, at PC and after it,
written into memory from outside. -/
def pokeWord (s : State) (v : Nat) : Memory :=
  let m := s.mem.write s.pc.toNat (BitVec.ofNat 8 v)
  let m := m.write (s.pc + 1).toNat (BitVec.ofNat 8 (v / 256))
  m.write (s.pc + 2).toNat (BitVec.ofNat 8 (v / 65536))

/-- The platform with storage at each of the three addresses from PC on that does not hold a byte. -/
def platformForFetch (s : State) : Platform :=
  let needed := [s.pc, s.pc + 1, s.pc + 2].filter (fun a => !fetchable s.platform a)
  { s.platform with memMap := needed.map (fun a => ⟨a, 1, .storage⟩) ++ s.platform.memMap }

/-- The state in which the very next step fetches and runs the instruction whose bits are `w` (log 5):
its bytes at PC, not waiting, and nothing presented at this boundary. -/
def placeForFetch (s : State) (nbits w : Nat) : State :=
  { s with
    mem := pokeWord s (w % 2 ^ nbits)
    platform := platformForFetch s
    waiting := false
    inputs := quietBoundary :: s.inputs }

end Sys2Proof.Machine
end

