-- ==== Sys2Proof/Machine/Step.lean ====
section
/-! DEFINITION. One step of the machine: one instruction boundary (00_scope.md R14). The definitions it
calls stand in Machine/Boundary.lean. -/

namespace Sys2Proof.Machine

/-- One step (R14, R257, R260, R280). -/
def step (s : State) : Host.Outcome State Fault Refusal := stepBoundary s

/-- The state with one instruction stored where the next step fetches (log 5). -/
def State.withFetchWord (s : State) (nbits w : Nat) : State := placeForFetch s nbits w

end Sys2Proof.Machine
end

