-- ==== Sys2Proof/Machine/Forms.lean ====
section
/-! DEFINITION. The constructors of Instr by operation and operand form: for each mnemonic that has
several addressing modes, or each operation that A, B and memory share, the constructor of every form.
Statements about all forms of an instruction are written with these; no meaning uses them. -/

namespace Sys2Proof.Machine

/-- What a unary operation is applied to: an accumulator, or a memory byte in mode INDXD or EXTND
(43_unary_4x_7x.md). -/
inductive UnaryForm where
  | acc (r : Acc)
  | ind (off : Byte)
  | ext (addr : Word)
  deriving DecidableEq, Repr

/-- NEGA, NEGB, and NEG indexed and extended. -/
def negForm (u : UnaryForm) : Instr :=
  match u with
  | .acc .a => .nega
  | .acc .b => .negb
  | .ind off => .negInd off
  | .ext addr => .negExt addr

/-- COMA, COMB, and COM indexed and extended. -/
def comForm (u : UnaryForm) : Instr :=
  match u with
  | .acc .a => .coma
  | .acc .b => .comb
  | .ind off => .comInd off
  | .ext addr => .comExt addr

/-- LSRA, LSRB, and LSR indexed and extended. -/
def lsrForm (u : UnaryForm) : Instr :=
  match u with
  | .acc .a => .lsra
  | .acc .b => .lsrb
  | .ind off => .lsrInd off
  | .ext addr => .lsrExt addr

/-- RORA, RORB, and ROR indexed and extended. -/
def rorForm (u : UnaryForm) : Instr :=
  match u with
  | .acc .a => .rora
  | .acc .b => .rorb
  | .ind off => .rorInd off
  | .ext addr => .rorExt addr

/-- ASRA, ASRB, and ASR indexed and extended. -/
def asrForm (u : UnaryForm) : Instr :=
  match u with
  | .acc .a => .asra
  | .acc .b => .asrb
  | .ind off => .asrInd off
  | .ext addr => .asrExt addr

/-- ASLA, ASLB, and ASL indexed and extended. -/
def aslForm (u : UnaryForm) : Instr :=
  match u with
  | .acc .a => .asla
  | .acc .b => .aslb
  | .ind off => .aslInd off
  | .ext addr => .aslExt addr

/-- ROLA, ROLB, and ROL indexed and extended. -/
def rolForm (u : UnaryForm) : Instr :=
  match u with
  | .acc .a => .rola
  | .acc .b => .rolb
  | .ind off => .rolInd off
  | .ext addr => .rolExt addr

/-- DECA, DECB, and DEC indexed and extended. -/
def decForm (u : UnaryForm) : Instr :=
  match u with
  | .acc .a => .deca
  | .acc .b => .decb
  | .ind off => .decInd off
  | .ext addr => .decExt addr

/-- INCA, INCB, and INC indexed and extended. -/
def incForm (u : UnaryForm) : Instr :=
  match u with
  | .acc .a => .inca
  | .acc .b => .incb
  | .ind off => .incInd off
  | .ext addr => .incExt addr

/-- TSTA, TSTB, and TST indexed and extended. -/
def tstForm (u : UnaryForm) : Instr :=
  match u with
  | .acc .a => .tsta
  | .acc .b => .tstb
  | .ind off => .tstInd off
  | .ext addr => .tstExt addr

/-- CLRA, CLRB, and CLR indexed and extended. -/
def clrForm (u : UnaryForm) : Instr :=
  match u with
  | .acc .a => .clra
  | .acc .b => .clrb
  | .ind off => .clrInd off
  | .ext addr => .clrExt addr

/-- SUBA and SUBB in their four modes. -/
def subForm (r : Acc) (o : Operand8) : Instr :=
  match r, o with
  | .a, .imm v => .subaImm v
  | .a, .mem (.dir d) => .subaDir d
  | .a, .mem (.ind off) => .subaInd off
  | .a, .mem (.ext addr) => .subaExt addr
  | .b, .imm v => .subbImm v
  | .b, .mem (.dir d) => .subbDir d
  | .b, .mem (.ind off) => .subbInd off
  | .b, .mem (.ext addr) => .subbExt addr

/-- CMPA and CMPB in their four modes. -/
def cmpForm (r : Acc) (o : Operand8) : Instr :=
  match r, o with
  | .a, .imm v => .cmpaImm v
  | .a, .mem (.dir d) => .cmpaDir d
  | .a, .mem (.ind off) => .cmpaInd off
  | .a, .mem (.ext addr) => .cmpaExt addr
  | .b, .imm v => .cmpbImm v
  | .b, .mem (.dir d) => .cmpbDir d
  | .b, .mem (.ind off) => .cmpbInd off
  | .b, .mem (.ext addr) => .cmpbExt addr

/-- SBCA and SBCB in their four modes. -/
def sbcForm (r : Acc) (o : Operand8) : Instr :=
  match r, o with
  | .a, .imm v => .sbcaImm v
  | .a, .mem (.dir d) => .sbcaDir d
  | .a, .mem (.ind off) => .sbcaInd off
  | .a, .mem (.ext addr) => .sbcaExt addr
  | .b, .imm v => .sbcbImm v
  | .b, .mem (.dir d) => .sbcbDir d
  | .b, .mem (.ind off) => .sbcbInd off
  | .b, .mem (.ext addr) => .sbcbExt addr

/-- ANDA and ANDB in their four modes. -/
def andForm (r : Acc) (o : Operand8) : Instr :=
  match r, o with
  | .a, .imm v => .andaImm v
  | .a, .mem (.dir d) => .andaDir d
  | .a, .mem (.ind off) => .andaInd off
  | .a, .mem (.ext addr) => .andaExt addr
  | .b, .imm v => .andbImm v
  | .b, .mem (.dir d) => .andbDir d
  | .b, .mem (.ind off) => .andbInd off
  | .b, .mem (.ext addr) => .andbExt addr

/-- BITA and BITB in their four modes. -/
def bitForm (r : Acc) (o : Operand8) : Instr :=
  match r, o with
  | .a, .imm v => .bitaImm v
  | .a, .mem (.dir d) => .bitaDir d
  | .a, .mem (.ind off) => .bitaInd off
  | .a, .mem (.ext addr) => .bitaExt addr
  | .b, .imm v => .bitbImm v
  | .b, .mem (.dir d) => .bitbDir d
  | .b, .mem (.ind off) => .bitbInd off
  | .b, .mem (.ext addr) => .bitbExt addr

/-- LDAA and LDAB in their four modes. -/
def ldaForm (r : Acc) (o : Operand8) : Instr :=
  match r, o with
  | .a, .imm v => .ldaaImm v
  | .a, .mem (.dir d) => .ldaaDir d
  | .a, .mem (.ind off) => .ldaaInd off
  | .a, .mem (.ext addr) => .ldaaExt addr
  | .b, .imm v => .ldabImm v
  | .b, .mem (.dir d) => .ldabDir d
  | .b, .mem (.ind off) => .ldabInd off
  | .b, .mem (.ext addr) => .ldabExt addr

/-- EORA and EORB in their four modes. -/
def eorForm (r : Acc) (o : Operand8) : Instr :=
  match r, o with
  | .a, .imm v => .eoraImm v
  | .a, .mem (.dir d) => .eoraDir d
  | .a, .mem (.ind off) => .eoraInd off
  | .a, .mem (.ext addr) => .eoraExt addr
  | .b, .imm v => .eorbImm v
  | .b, .mem (.dir d) => .eorbDir d
  | .b, .mem (.ind off) => .eorbInd off
  | .b, .mem (.ext addr) => .eorbExt addr

/-- ADCA and ADCB in their four modes. -/
def adcForm (r : Acc) (o : Operand8) : Instr :=
  match r, o with
  | .a, .imm v => .adcaImm v
  | .a, .mem (.dir d) => .adcaDir d
  | .a, .mem (.ind off) => .adcaInd off
  | .a, .mem (.ext addr) => .adcaExt addr
  | .b, .imm v => .adcbImm v
  | .b, .mem (.dir d) => .adcbDir d
  | .b, .mem (.ind off) => .adcbInd off
  | .b, .mem (.ext addr) => .adcbExt addr

/-- ORAA and ORAB in their four modes. -/
def oraForm (r : Acc) (o : Operand8) : Instr :=
  match r, o with
  | .a, .imm v => .oraaImm v
  | .a, .mem (.dir d) => .oraaDir d
  | .a, .mem (.ind off) => .oraaInd off
  | .a, .mem (.ext addr) => .oraaExt addr
  | .b, .imm v => .orabImm v
  | .b, .mem (.dir d) => .orabDir d
  | .b, .mem (.ind off) => .orabInd off
  | .b, .mem (.ext addr) => .orabExt addr

/-- ADDA and ADDB in their four modes. -/
def addForm (r : Acc) (o : Operand8) : Instr :=
  match r, o with
  | .a, .imm v => .addaImm v
  | .a, .mem (.dir d) => .addaDir d
  | .a, .mem (.ind off) => .addaInd off
  | .a, .mem (.ext addr) => .addaExt addr
  | .b, .imm v => .addbImm v
  | .b, .mem (.dir d) => .addbDir d
  | .b, .mem (.ind off) => .addbInd off
  | .b, .mem (.ext addr) => .addbExt addr

/-- STAA and STAB in their three modes. -/
def staForm (r : Acc) (m : MemMode) : Instr :=
  match r, m with
  | .a, .dir d => .staaDir d
  | .a, .ind off => .staaInd off
  | .a, .ext addr => .staaExt addr
  | .b, .dir d => .stabDir d
  | .b, .ind off => .stabInd off
  | .b, .ext addr => .stabExt addr

/-- SUBD in its four modes. -/
def subdForm (o : Operand16) : Instr :=
  match o with
  | .imm v => .subdImm v
  | .mem (.dir d) => .subdDir d
  | .mem (.ind off) => .subdInd off
  | .mem (.ext addr) => .subdExt addr

/-- ADDD in its four modes. -/
def adddForm (o : Operand16) : Instr :=
  match o with
  | .imm v => .adddImm v
  | .mem (.dir d) => .adddDir d
  | .mem (.ind off) => .adddInd off
  | .mem (.ext addr) => .adddExt addr

/-- CPX in its four modes. -/
def cpxForm (o : Operand16) : Instr :=
  match o with
  | .imm v => .cpxImm v
  | .mem (.dir d) => .cpxDir d
  | .mem (.ind off) => .cpxInd off
  | .mem (.ext addr) => .cpxExt addr

/-- LDD in its four modes. -/
def lddForm (o : Operand16) : Instr :=
  match o with
  | .imm v => .lddImm v
  | .mem (.dir d) => .lddDir d
  | .mem (.ind off) => .lddInd off
  | .mem (.ext addr) => .lddExt addr

/-- LDX in its four modes. -/
def ldxForm (o : Operand16) : Instr :=
  match o with
  | .imm v => .ldxImm v
  | .mem (.dir d) => .ldxDir d
  | .mem (.ind off) => .ldxInd off
  | .mem (.ext addr) => .ldxExt addr

/-- LDS in its four modes. -/
def ldsForm (o : Operand16) : Instr :=
  match o with
  | .imm v => .ldsImm v
  | .mem (.dir d) => .ldsDir d
  | .mem (.ind off) => .ldsInd off
  | .mem (.ext addr) => .ldsExt addr

/-- STD in its three modes. -/
def stdForm (m : MemMode) : Instr :=
  match m with
  | .dir d => .stdDir d
  | .ind off => .stdInd off
  | .ext addr => .stdExt addr

/-- STX in its three modes. -/
def stxForm (m : MemMode) : Instr :=
  match m with
  | .dir d => .stxDir d
  | .ind off => .stxInd off
  | .ext addr => .stxExt addr

/-- STS in its three modes. -/
def stsForm (m : MemMode) : Instr :=
  match m with
  | .dir d => .stsDir d
  | .ind off => .stsInd off
  | .ext addr => .stsExt addr

/-- JSR in its three modes. -/
def jsrForm (m : MemMode) : Instr :=
  match m with
  | .dir d => .jsrDir d
  | .ind off => .jsrInd off
  | .ext addr => .jsrExt addr

/-- The sixteen branches, in the order of their opcodes (R130). -/
inductive Branch where
  | bra
  | brn
  | bhi
  | bls
  | bcc
  | bcs
  | bne
  | beq
  | bvc
  | bvs
  | bpl
  | bmi
  | bge
  | blt
  | bgt
  | ble
  deriving DecidableEq, Repr

/-- The branch instruction with its offset. -/
def branchForm (k : Branch) (rel : Byte) : Instr :=
  match k with
  | .bra => .bra rel
  | .brn => .brn rel
  | .bhi => .bhi rel
  | .bls => .bls rel
  | .bcc => .bcc rel
  | .bcs => .bcs rel
  | .bne => .bne rel
  | .beq => .beq rel
  | .bvc => .bvc rel
  | .bvs => .bvs rel
  | .bpl => .bpl rel
  | .bmi => .bmi rel
  | .bge => .bge rel
  | .blt => .blt rel
  | .bgt => .bgt rel
  | .ble => .ble rel

/-- The row of TABLE 8 an instruction belongs to has this opcode, mode, `~` and `#`, and its encoding
has that opcode first and that many bytes. -/
def HasRow (i : Instr) (op : Byte) (mnemonic : String) (mode : Mode) (cycles length : Nat) : Prop :=
  (encode i).head? = some op ∧ (encode i).length = length ∧
    (opcodeRow op).map (fun r => (r.mnemonic, r.mode, r.cycles, formLength r.form))
      = some (mnemonic, mode, cycles, length)

/-- The rows of an 8-bit accumulator operation with immediate opcode `op`: IMMED, DIR, INDXD, EXTND at
`op`, `op + $10`, `op + $20`, `op + $30`, with `~` 2, 3, 4, 4 and `#` 2, 2, 2, 3. -/
def AccRows (f : Operand8 → Instr) (mnemonic : String) (op : Byte) : Prop :=
  (∀ v, HasRow (f (.imm v)) op mnemonic .immed 2 2) ∧
  (∀ d, HasRow (f (.mem (.dir d))) (op + 0x10) mnemonic .dir 3 2) ∧
  (∀ off, HasRow (f (.mem (.ind off))) (op + 0x20) mnemonic .indxd 4 2) ∧
  (∀ addr, HasRow (f (.mem (.ext addr))) (op + 0x30) mnemonic .extnd 4 3)

/-- The rows of an operation with a 16-bit immediate of opcode `op` and execution times `ci`, `ci + 1`,
`ci + 2`, `ci + 2`. -/
def WordRows (f : Operand16 → Instr) (mnemonic : String) (op : Byte) (ci : Nat) : Prop :=
  (∀ v, HasRow (f (.imm v)) op mnemonic .immed ci 3) ∧
  (∀ d, HasRow (f (.mem (.dir d))) (op + 0x10) mnemonic .dir (ci + 1) 2) ∧
  (∀ off, HasRow (f (.mem (.ind off))) (op + 0x20) mnemonic .indxd (ci + 2) 2) ∧
  (∀ addr, HasRow (f (.mem (.ext addr))) (op + 0x30) mnemonic .extnd (ci + 2) 3)

/-- The rows of a form with no immediate whose direct opcode is `op`, with `~` `cd`, `cd + 1`,
`cd + 1`. -/
def MemRows (f : MemMode → Instr) (mnemonic : String) (op : Byte) (cd : Nat) : Prop :=
  (∀ d, HasRow (f (.dir d)) op mnemonic .dir cd 2) ∧
  (∀ off, HasRow (f (.ind off)) (op + 0x10) mnemonic .indxd (cd + 1) 2) ∧
  (∀ addr, HasRow (f (.ext addr)) (op + 0x20) mnemonic .extnd (cd + 1) 3)

/-- The rows of a unary operation: A at `op`, B at `op + $10`, INDXD at `op + $20`, EXTND at
`op + $30`, with `~` 2, 2, 6, 6. -/
def UnaryRows (f : UnaryForm → Instr) (onA onB onMem : String) (op : Byte) : Prop :=
  HasRow (f (.acc .a)) op onA .inher 2 1 ∧
  HasRow (f (.acc .b)) (op + 0x10) onB .inher 2 1 ∧
  (∀ off, HasRow (f (.ind off)) (op + 0x20) onMem .indxd 6 2) ∧
  (∀ addr, HasRow (f (.ext addr)) (op + 0x30) onMem .extnd 6 3)

end Sys2Proof.Machine
end

