-- ==== Sys2Proof/Safety.lean ====
section
/-! DEFINITION. What counts as a safe run and the terms statements use: where the stack and a frame
stand in storage (70_reset_and_hazards.md R283, R286), which addresses an instruction stores to, which
mnemonics write which condition bit (10_state.md R35), and the invariants. -/

namespace Sys2Proof.Machine

/-- A step answers a next state. -/
def Answers (o : Host.Outcome State Fault Refusal) : Prop := ∃ t, o = .next t

/-- A run of `n` steps ends in no fault and no refusal. -/
def SafeFor (n : Nat) (s : State) : Prop := ∃ t, Host.Core.run Sys2Proof.core n s = .next t

/-- The `n` addresses from `sp` downwards, to which `n` pushes store, are storage (R283, R286). -/
def StackInStorage (p : Platform) (sp : Word) (n : Nat) : Prop :=
  ∀ k : Nat, k < n → kindAt p (sp - BitVec.ofNat 16 k) = .storage

/-- No address of the platform has a read with a side effect (R57, R59). -/
def NoReadEffects (p : Platform) : Prop := ∀ a : Word, hasReadEffect p a = false

/-- Memory is in its canonical form. -/
def MemoryCanonical (s : State) : Prop := s.mem.wf = true

/-- The `n` addresses from `sp` downwards. -/
def stackBelow (sp : Word) (n : Nat) : List Word :=
  (List.range n).map (fun k => sp - BitVec.ofNat 16 k)

/-- The addresses of a 16-bit operand: EA and EA + 1 (R54). -/
def wordAt (addr : Word) : List Word := [addr, addr + 1]

/-- The addresses an instruction stores to, computed from the state it is executed in, in which PC is
the address of the next instruction (R55, R56); empty for one that stores nothing. -/
def storesTo (i : Instr) (s : State) : List Word :=
  match i with
  | .nop => []
  | .lsrd => []
  | .asld => []
  | .tap => []
  | .tpa => []
  | .inx => []
  | .dex => []
  | .clv => []
  | .sev => []
  | .clc => []
  | .sec => []
  | .cli => []
  | .sei => []
  | .sba => []
  | .cba => []
  | .tab => []
  | .tba => []
  | .daa => []
  | .aba => []
  | .bra _ => []
  | .brn _ => []
  | .bhi _ => []
  | .bls _ => []
  | .bcc _ => []
  | .bcs _ => []
  | .bne _ => []
  | .beq _ => []
  | .bvc _ => []
  | .bvs _ => []
  | .bpl _ => []
  | .bmi _ => []
  | .bge _ => []
  | .blt _ => []
  | .bgt _ => []
  | .ble _ => []
  | .tsx => []
  | .ins => []
  | .pula => []
  | .pulb => []
  | .des => []
  | .txs => []
  | .psha => stackBelow s.sp 1
  | .pshb => stackBelow s.sp 1
  | .pulx => []
  | .rts => []
  | .abx => []
  | .rti => []
  | .pshx => stackBelow s.sp 2
  | .mul => []
  | .wai => stackBelow s.sp 7
  | .swi => stackBelow s.sp 7
  | .nega => []
  | .coma => []
  | .lsra => []
  | .rora => []
  | .asra => []
  | .asla => []
  | .rola => []
  | .deca => []
  | .inca => []
  | .tsta => []
  | .clra => []
  | .negb => []
  | .comb => []
  | .lsrb => []
  | .rorb => []
  | .asrb => []
  | .aslb => []
  | .rolb => []
  | .decb => []
  | .incb => []
  | .tstb => []
  | .clrb => []
  | .negInd off => [ea (.ind off) s]
  | .comInd off => [ea (.ind off) s]
  | .lsrInd off => [ea (.ind off) s]
  | .rorInd off => [ea (.ind off) s]
  | .asrInd off => [ea (.ind off) s]
  | .aslInd off => [ea (.ind off) s]
  | .rolInd off => [ea (.ind off) s]
  | .decInd off => [ea (.ind off) s]
  | .incInd off => [ea (.ind off) s]
  | .tstInd _ => []
  | .jmpInd _ => []
  | .clrInd off => [ea (.ind off) s]
  | .negExt addr => [ea (.ext addr) s]
  | .comExt addr => [ea (.ext addr) s]
  | .lsrExt addr => [ea (.ext addr) s]
  | .rorExt addr => [ea (.ext addr) s]
  | .asrExt addr => [ea (.ext addr) s]
  | .aslExt addr => [ea (.ext addr) s]
  | .rolExt addr => [ea (.ext addr) s]
  | .decExt addr => [ea (.ext addr) s]
  | .incExt addr => [ea (.ext addr) s]
  | .tstExt _ => []
  | .jmpExt _ => []
  | .clrExt addr => [ea (.ext addr) s]
  | .subaImm _ => []
  | .cmpaImm _ => []
  | .sbcaImm _ => []
  | .subdImm _ => []
  | .andaImm _ => []
  | .bitaImm _ => []
  | .ldaaImm _ => []
  | .eoraImm _ => []
  | .adcaImm _ => []
  | .oraaImm _ => []
  | .addaImm _ => []
  | .cpxImm _ => []
  | .bsr _ => stackBelow s.sp 2
  | .ldsImm _ => []
  | .subaDir _ => []
  | .cmpaDir _ => []
  | .sbcaDir _ => []
  | .subdDir _ => []
  | .andaDir _ => []
  | .bitaDir _ => []
  | .ldaaDir _ => []
  | .staaDir d => [ea (.dir d) s]
  | .eoraDir _ => []
  | .adcaDir _ => []
  | .oraaDir _ => []
  | .addaDir _ => []
  | .cpxDir _ => []
  | .jsrDir _ => stackBelow s.sp 2
  | .ldsDir _ => []
  | .stsDir d => wordAt (ea (.dir d) s)
  | .subaInd _ => []
  | .cmpaInd _ => []
  | .sbcaInd _ => []
  | .subdInd _ => []
  | .andaInd _ => []
  | .bitaInd _ => []
  | .ldaaInd _ => []
  | .staaInd off => [ea (.ind off) s]
  | .eoraInd _ => []
  | .adcaInd _ => []
  | .oraaInd _ => []
  | .addaInd _ => []
  | .cpxInd _ => []
  | .jsrInd _ => stackBelow s.sp 2
  | .ldsInd _ => []
  | .stsInd off => wordAt (ea (.ind off) s)
  | .subaExt _ => []
  | .cmpaExt _ => []
  | .sbcaExt _ => []
  | .subdExt _ => []
  | .andaExt _ => []
  | .bitaExt _ => []
  | .ldaaExt _ => []
  | .staaExt addr => [ea (.ext addr) s]
  | .eoraExt _ => []
  | .adcaExt _ => []
  | .oraaExt _ => []
  | .addaExt _ => []
  | .cpxExt _ => []
  | .jsrExt _ => stackBelow s.sp 2
  | .ldsExt _ => []
  | .stsExt addr => wordAt (ea (.ext addr) s)
  | .subbImm _ => []
  | .cmpbImm _ => []
  | .sbcbImm _ => []
  | .adddImm _ => []
  | .andbImm _ => []
  | .bitbImm _ => []
  | .ldabImm _ => []
  | .eorbImm _ => []
  | .adcbImm _ => []
  | .orabImm _ => []
  | .addbImm _ => []
  | .lddImm _ => []
  | .ldxImm _ => []
  | .subbDir _ => []
  | .cmpbDir _ => []
  | .sbcbDir _ => []
  | .adddDir _ => []
  | .andbDir _ => []
  | .bitbDir _ => []
  | .ldabDir _ => []
  | .stabDir d => [ea (.dir d) s]
  | .eorbDir _ => []
  | .adcbDir _ => []
  | .orabDir _ => []
  | .addbDir _ => []
  | .lddDir _ => []
  | .stdDir d => wordAt (ea (.dir d) s)
  | .ldxDir _ => []
  | .stxDir d => wordAt (ea (.dir d) s)
  | .subbInd _ => []
  | .cmpbInd _ => []
  | .sbcbInd _ => []
  | .adddInd _ => []
  | .andbInd _ => []
  | .bitbInd _ => []
  | .ldabInd _ => []
  | .stabInd off => [ea (.ind off) s]
  | .eorbInd _ => []
  | .adcbInd _ => []
  | .orabInd _ => []
  | .addbInd _ => []
  | .lddInd _ => []
  | .stdInd off => wordAt (ea (.ind off) s)
  | .ldxInd _ => []
  | .stxInd off => wordAt (ea (.ind off) s)
  | .subbExt _ => []
  | .cmpbExt _ => []
  | .sbcbExt _ => []
  | .adddExt _ => []
  | .andbExt _ => []
  | .bitbExt _ => []
  | .ldabExt _ => []
  | .stabExt addr => [ea (.ext addr) s]
  | .eorbExt _ => []
  | .adcbExt _ => []
  | .orabExt _ => []
  | .addbExt _ => []
  | .lddExt _ => []
  | .stdExt addr => wordAt (ea (.ext addr) s)
  | .ldxExt _ => []
  | .stxExt addr => wordAt (ea (.ext addr) s)

/-- The mnemonic of an instruction's row. -/
def mnemonicOf (i : Instr) : String :=
  match rowOf i with
  | some r => r.mnemonic
  | none => ""

/-- The mnemonics of R35 that write all of H, N, Z, V, C from the result. -/
def writersHNZVC : List String := ["ABA", "ADDA", "ADDB", "ADCA", "ADCB"]

/-- The mnemonics of R35 that write N, Z, V, C from the result. -/
def writersNZVC : List String :=
  ["SBA", "CBA", "SUBA", "SUBB", "CMPA", "CMPB", "SBCA", "SBCB", "SUBD", "ADDD", "CPX",
   "NEGA", "NEGB", "NEG", "ASLA", "ASLB", "ASL", "ASRA", "ASRB", "ASR", "LSRA", "LSRB", "LSR",
   "ROLA", "ROLB", "ROL", "RORA", "RORB", "ROR", "ASLD", "LSRD"]

/-- The mnemonics of R35 that write N and Z from the result and clear V. -/
def writersNZclearV : List String :=
  ["ANDA", "ANDB", "BITA", "BITB", "EORA", "EORB", "ORAA", "ORAB", "LDAA", "LDAB", "STAA", "STAB",
   "LDD", "STD", "LDX", "STX", "LDS", "STS", "TAB", "TBA"]

/-- The mnemonics of R35 that write N, Z and V from the result. -/
def writersNZV : List String := ["INCA", "INCB", "INC", "DECA", "DECB", "DEC"]

/-- COM*, TST* and CLR* of R35, which write N, Z, V and C. -/
def writersComTstClr : List String :=
  ["COMA", "COMB", "COM", "TSTA", "TSTB", "TST", "CLRA", "CLRB", "CLR"]

/-- Those that write H (R29, R35). -/
def writesH : List String := writersHNZVC ++ ["TAP", "RTI"]

/-- Those that write I (R30, R35). -/
def writesI : List String := ["CLI", "SEI", "SWI", "TAP", "RTI"]

/-- Those that write N (R35). -/
def writesN : List String :=
  writersHNZVC ++ writersNZVC ++ writersNZclearV ++ writersNZV ++ writersComTstClr
    ++ ["DAA", "TAP", "RTI"]

/-- Those that write Z (R35). -/
def writesZ : List String := writesN ++ ["INX", "DEX"]

/-- Those that write V (R35). -/
def writesV : List String := writesN ++ ["CLV", "SEV"]

/-- Those that write C (R35). -/
def writesC : List String :=
  writersHNZVC ++ writersNZVC ++ writersComTstClr ++ ["DAA", "MUL", "CLC", "SEC", "TAP", "RTI"]

/-- Those that write accumulator A (R20, R22). -/
def writesA : List String :=
  ["SUBA", "SBCA", "ANDA", "LDAA", "EORA", "ADCA", "ORAA", "ADDA", "NEGA", "COMA", "LSRA", "RORA",
   "ASRA", "ASLA", "ROLA", "DECA", "INCA", "CLRA", "PULA", "SBA", "TBA", "ABA", "DAA", "TPA", "MUL",
   "LSRD", "ASLD", "SUBD", "ADDD", "LDD", "RTI"]

/-- Those that write accumulator B (R21, R22). -/
def writesB : List String :=
  ["SUBB", "SBCB", "ANDB", "LDAB", "EORB", "ADCB", "ORAB", "ADDB", "NEGB", "COMB", "LSRB", "RORB",
   "ASRB", "ASLB", "ROLB", "DECB", "INCB", "CLRB", "PULB", "TAB", "MUL", "LSRD", "ASLD", "SUBD", "ADDD",
   "LDD", "RTI"]

/-- Those that write X (R23). -/
def writesX : List String := ["LDX", "INX", "DEX", "ABX", "TSX", "PULX", "RTI"]

/-- Those that write SP: LDS, TXS, INS, DES and every push and pull (R24). -/
def writesSP : List String :=
  ["LDS", "TXS", "INS", "DES", "PSHA", "PSHB", "PSHX", "PULA", "PULB", "PULX", "BSR", "JSR", "RTS",
   "RTI", "SWI", "WAI"]

/-- Those that overwrite PC: branches, JMP, BSR, JSR, RTS, RTI and SWI (R26). -/
def writesPC : List String :=
  ["BRA", "BHI", "BLS", "BCC", "BCS", "BNE", "BEQ", "BVC", "BVS", "BPL", "BMI", "BGE", "BLT", "BGT",
   "BLE", "JMP", "BSR", "JSR", "RTS", "RTI", "SWI"]

/-- The 36 unassigned first bytes, as R91 lists them. -/
def unassignedOpcodes : List Byte :=
  [0x00, 0x02, 0x03, 0x12, 0x13, 0x14, 0x15, 0x18, 0x1A, 0x1C, 0x1D, 0x1E, 0x1F, 0x41, 0x42, 0x45,
   0x4B, 0x4E, 0x51, 0x52, 0x55, 0x5B, 0x5E, 0x61, 0x62, 0x65, 0x6B, 0x71, 0x72, 0x75, 0x7B, 0x87,
   0x8F, 0xC7, 0xCD, 0xCF]

/-- At this boundary the step runs an instruction: no reset, no eligible interrupt, not waiting, and PC, X
and SP point at no address whose read has a side effect (R14, R57, R257, R260). -/
def RunsInstruction (s : State) : Prop :=
  (presented s).reset = none ∧ eligibleSource (presented s).asserted s = none ∧
    s.waiting = false ∧ pointerAtEffect s = none

/-- The addresses from PC on hold these bytes (storage or rom). -/
def BytesAtPc (s : State) (bytes : List Byte) : Prop :=
  ∀ (k : Nat) (h : k < bytes.length),
    (kindAt s.platform (s.pc + BitVec.ofNat 16 k)).holdsByte = true ∧
      s.mem.read (s.pc + BitVec.ofNat 16 k).toNat = bytes[k]

/-- The accesses of a fetch of these bytes at `pc` and after it (R8, R57). -/
def fetchReads (pc : Word) (bytes : List Byte) : List Access :=
  match bytes with
  | [] => []
  | v :: rest => .read pc v :: fetchReads (pc + 1) rest

/-- The state after the fetch of these bytes: PC past them, this boundary's inputs used up, the fetch
recorded (R14). -/
def afterFetch (s : State) (bytes : List Byte) : State :=
  { s with
    pc := s.pc + BitVec.ofNat 16 bytes.length
    inputs := s.inputs.tail
    bus := fetchReads s.pc bytes }

/-- Memory holds the frame of `s` at the seven addresses from `sp` downwards, as the table of R255 places
it. -/
def FrameAt (m : Memory) (sp : Word) (s : State) : Prop :=
  m.read sp.toNat = loByte s.pc ∧
  m.read (sp - 1).toNat = hiByte s.pc ∧
  m.read (sp - 2).toNat = loByte s.x ∧
  m.read (sp - 3).toNat = hiByte s.x ∧
  m.read (sp - 4).toNat = s.a ∧
  m.read (sp - 5).toNat = s.b ∧
  m.read (sp - 6).toNat = s.ccr.toByte

/-- Memory after the writes among these accesses have landed, oldest first: a write to storage stores its
byte, a write to any other kind of address and a read store nothing (R60, R281). -/
def landed (p : Platform) (es : List Access) (m : Memory) : Memory :=
  match es with
  | [] => m
  | .read _ _ :: rest => landed p rest m
  | .write addr v :: rest =>
    landed p rest (if kindAt p addr = .storage then m.write addr.toNat v else m)

/-- The state in which this boundary presents the same requests and no reset: what its step does is what a
reset would cut (R281, log 8). -/
def withoutReset (s : State) : State :=
  { s with inputs := { presented s with reset := none } :: s.inputs.tail }

/-- The state with other recorded accesses and another count of draws; nothing a program sees. -/
def withTrace (s : State) (bus : List Access) (draws : Nat) : State :=
  { s with bus := bus, draws := draws }

end Sys2Proof.Machine
end

