-- ==== Sys2Proof/Certificates/Slice0/Obligations.lean ====
section
/-! DEFINITION. The statements for the provers. Each docstring names the rule of the spec it
formalises. A meaning is given the state after the fetch (R14), so an equation `exec i s = .next { s with … }`
says the whole effect: every field the update does not name is unchanged. Statements about the machine's step
take the fetch in.

What is the model's own and no rule of the spec, wherever a statement speaks of it: the canonical form of the
memory list (log 3), the platform and the inputs as fields of State (log 4, log 6), the record of accesses `bus`
(log 13), the counter `draws` and the free values (log 9, log 10, log 18), and the refusal at an address whose
read has a side effect (log 11). -/

open Sys2Proof Sys2Proof.Machine

/-! ### Encoding -/

/-- R80, R81, R90: decoding the bytes of an instruction, whatever follows them, gives the instruction and
the bytes that follow. For all 220 constructors and every operand. -/
def Obligations.DecodeOfEncodeIsTheInstruction : Prop :=
  ∀ (i : Instr) (rest : List Byte), decode (encode i ++ rest) = .ok (i, rest)

/-- R80, R90: every byte string has one meaning: what decodes is the encoding of what it decodes to,
followed by the bytes left over. -/
def Obligations.DecodedBytesAreTheEncoding : Prop :=
  ∀ (bs rest : List Byte) (i : Instr), decode bs = .ok (i, rest) → bs = encode i ++ rest

/-- R91, R93: a first byte is rejected as unassigned exactly when it is one of the 36; every other first
byte followed by two bytes is decoded. -/
def Obligations.DecoderRejectsExactlyTheUnassigned : Prop :=
  ∀ (op b1 b2 : Byte) (rest : List Byte),
    (decode (op :: rest) = .error (.unassigned op) ↔ op ∈ unassignedOpcodes) ∧
    (op ∉ unassignedOpcodes → ∃ i left, decode (op :: b1 :: b2 :: rest) = .ok (i, left))

/-- R89, R93, R291: what the opcode table's layout says of every assigned opcode: its mode is a function of
its high nibble, except 8D; its length is 1 for INHER, 2 for REL, DIR, INDXD and IMMED with an 8-bit register,
3 for EXTND and for the six immediates 83, 8C, 8E, C3, CC, CE; and in the columns 9 and D the DIR form takes
one cycle fewer than the EXTND form $20 later, the INDXD form as many as the EXTND form. -/
def Obligations.TheTableIsRegular : Prop :=
  (∀ (op : Byte) (row : OpRow), opcodeRow op = some row →
    row.mode =
      (if op = 0x8D then .rel
       else if op.toNat / 16 ∈ [0, 1, 3, 4, 5] then .inher
       else if op.toNat / 16 = 2 then .rel
       else if op.toNat / 16 ∈ [6, 10, 14] then .indxd
       else if op.toNat / 16 ∈ [7, 11, 15] then .extnd
       else if op.toNat / 16 ∈ [8, 12] then .immed
       else .dir) ∧
    formLength row.form =
      (match row.mode with
       | .inher => 1
       | .rel => 2
       | .dir => 2
       | .indxd => 2
       | .extnd => 3
       | .immed => if op ∈ [0x83, 0x8C, 0x8E, 0xC3, 0xCC, 0xCE] then 3 else 2)) ∧
  (∀ (op : Byte) (d x e : OpRow), op.toNat / 16 = 9 ∨ op.toNat / 16 = 13 →
    opcodeRow op = some d → opcodeRow (op + 0x10) = some x → opcodeRow (op + 0x20) = some e →
    d.mnemonic = e.mnemonic ∧ x.mnemonic = e.mnemonic ∧ d.cycles + 1 = e.cycles ∧ x.cycles = e.cycles)

/-- R90, R94 to R96: words written out from the table decode to the instructions they stand for, the
repaired rows among them (9C, DF, FF, B0, 7A, 34, 26, C1, CC). -/
def Obligations.WordsOfTheTableDecode : Prop :=
  decode [0x01] = .ok (.nop, []) ∧
  decode [0x34] = .ok (.des, []) ∧
  decode [0x26, 0x05] = .ok (.bne 0x05, []) ∧
  decode [0x86, 0x12] = .ok (.ldaaImm 0x12, []) ∧
  decode [0xC1, 0x05] = .ok (.cmpbImm 0x05, []) ∧
  decode [0xCC, 0x12, 0x34] = .ok (.lddImm 0x1234, []) ∧
  decode [0x9C, 0x40] = .ok (.cpxDir 0x40, []) ∧
  decode [0xDF, 0x40] = .ok (.stxDir 0x40, []) ∧
  decode [0xB0, 0x12, 0x34] = .ok (.subaExt 0x1234, []) ∧
  decode [0x7A, 0x12, 0x34] = .ok (.decExt 0x1234, []) ∧
  decode [0xFF, 0x12, 0x34] = .ok (.stxExt 0x1234, []) ∧
  decode [0x8D, 0x10] = .ok (.bsr 0x10, [])

/-! ### Memory, stack, registers, operands -/

/-- R60, R59: what reads and writes do at each kind of address. Storage returns the byte last written and
keeps every other byte; rom and absent addresses and devices keep memory on a write; a read of storage or
rom returns what memory holds and draws nothing; a read of a device or an absent address returns some byte
and uses up one draw. Every access is recorded. The kinds of address are R59 and R60; that an access is
appended to the field `bus` (log 13), that a device or absent read is the free byte of log 10 and moves the
counter `draws` on (log 18), and the canonical form (log 3) are the model's choice. -/
def Obligations.AccessesByKindOfAddress : Prop :=
  ∀ (s : State) (addr : Word) (v : Byte),
    (kindAt s.platform addr = .storage → MemoryCanonical s →
      (memWrite8 addr v s).mem.read addr.toNat = v ∧
      (memRead8 addr (memWrite8 addr v s)).1 = v) ∧
    (∀ other : Nat, other ≠ addr.toNat → (memWrite8 addr v s).mem.read other = s.mem.read other) ∧
    (kindAt s.platform addr ≠ .storage → (memWrite8 addr v s).mem = s.mem) ∧
    (memWrite8 addr v s).bus = s.bus ++ [.write addr v] ∧
    (kindAt s.platform addr = .storage ∨ kindAt s.platform addr = .rom →
      memRead8 addr s =
        (s.mem.read addr.toNat,
         { s with bus := s.bus ++ [.read addr (s.mem.read addr.toNat)] })) ∧
    (kindAt s.platform addr ≠ .storage → kindAt s.platform addr ≠ .rom →
      ∃ w : Byte, memRead8 addr s =
        (w, { s with bus := s.bus ++ [.read addr w], draws := s.draws + 1 }))

/-- R52, R54: a 16-bit access is two byte accesses, at the address and at the next one modulo 2^16, the high
byte at the first; over storage a 16-bit read gives back what a 16-bit write has put there. -/
def Obligations.WordsAreBigEndian : Prop :=
  ∀ (s : State) (addr v : Word),
    memRead16 addr s =
      (join (memRead8 addr s).1 (memRead8 (addr + 1) (memRead8 addr s).2).1,
       (memRead8 (addr + 1) (memRead8 addr s).2).2) ∧
    memWrite16 addr v s = memWrite8 (addr + 1) (loByte v) (memWrite8 addr (hiByte v) s) ∧
    (kindAt s.platform addr = .storage → kindAt s.platform (addr + 1) = .storage → MemoryCanonical s →
      (memRead8 addr (memWrite16 addr v s)).1 = hiByte v ∧
      (memRead8 (addr + 1) (memWrite16 addr v s)).1 = loByte v ∧
      (memRead16 addr (memWrite16 addr v s)).1 = v)

/-- R9: the stack primitives in terms of the memory primitives; and what is pushed on storage is pulled again,
one byte or two, with SP back where it was. -/
def Obligations.StackPrimitives : Prop :=
  ∀ (s : State) (v : Byte) (w : Word),
    push8 v s = { memWrite8 s.sp v s with sp := s.sp - 1 } ∧
    pull8 s = memRead8 (s.sp + 1) { s with sp := s.sp + 1 } ∧
    push16 w s = push8 (hiByte w) (push8 (loByte w) s) ∧
    pull16 s = (join (pull8 s).1 (pull8 (pull8 s).2).1, (pull8 (pull8 s).2).2) ∧
    (MemoryCanonical s → StackInStorage s.platform s.sp 1 →
      (pull8 (push8 v s)).1 = v ∧ (pull8 (push8 v s)).2.sp = s.sp) ∧
    (MemoryCanonical s → StackInStorage s.platform s.sp 2 →
      (pull16 (push16 w s)).1 = w ∧ (pull16 (push16 w s)).2.sp = s.sp)

/-- R10, R12: the adders, with the sum taken in one bit more. -/
def Obligations.AddersFollowTheirFormula : Prop :=
  (∀ (a b : Byte) (cin : Bool),
    let t : BitVec 9 := a.setWidth 9 + b.setWidth 9 + (BitVec.ofBool cin).setWidth 9
    let r : Byte := t.setWidth 8
    add8 a b cin =
      { r := r, n := r.getLsbD 7, z := decide (r = 0),
        v := (a.getLsbD 7 && b.getLsbD 7 && !r.getLsbD 7) ||
             (!a.getLsbD 7 && !b.getLsbD 7 && r.getLsbD 7),
        c := t.getLsbD 8 } ∧
    halfCarry a b cin =
      ((a.extractLsb' 0 4).setWidth 5 + (b.extractLsb' 0 4).setWidth 5
        + (BitVec.ofBool cin).setWidth 5 : BitVec 5).getLsbD 4) ∧
  (∀ a b : Word,
    let t : BitVec 17 := a.setWidth 17 + b.setWidth 17
    let r : Word := t.setWidth 16
    add16 a b =
      { r := r, n := r.getLsbD 15, z := decide (r = 0),
        v := (a.getLsbD 15 && b.getLsbD 15 && !r.getLsbD 15) ||
             (!a.getLsbD 15 && !b.getLsbD 15 && r.getLsbD 15),
        c := t.getLsbD 16 })

/-- R11, R12: the subtractors: the result modulo 2^W, C the borrow of the unsigned operands, V the
formula of the sign bits. -/
def Obligations.SubtractorsFollowTheirFormula : Prop :=
  (∀ (a b : Byte) (bin : Bool),
    let r : Byte := a - b - (BitVec.ofBool bin).setWidth 8
    sub8 a b bin =
      { r := r, n := r.getLsbD 7, z := decide (r = 0),
        v := (a.getLsbD 7 && !b.getLsbD 7 && !r.getLsbD 7) ||
             (!a.getLsbD 7 && b.getLsbD 7 && r.getLsbD 7),
        c := decide (a.toNat < b.toNat + bin.toNat) }) ∧
  (∀ a b : Word,
    sub16 a b =
      { r := a - b, n := (a - b).getLsbD 15, z := decide (a - b = 0),
        v := (a.getLsbD 15 && !b.getLsbD 15 && !(a - b).getLsbD 15) ||
             (!a.getLsbD 15 && b.getLsbD 15 && (a - b).getLsbD 15),
        c := decide (a.toNat < b.toNat) })

/-- R33: V of an addition or a subtraction says exactly that the signed result does not fit. -/
def Obligations.OverflowIsSignedOverflow : Prop :=
  (∀ (a b : Byte) (cin : Bool),
    ((add8 a b cin).v = true ↔
      (a.toInt + b.toInt + cin.toNat < -128 ∨ 127 < a.toInt + b.toInt + cin.toNat)) ∧
    ((sub8 a b cin).v = true ↔
      (a.toInt - b.toInt - cin.toNat < -128 ∨ 127 < a.toInt - b.toInt - cin.toNat))) ∧
  (∀ a b : Word,
    ((add16 a b).v = true ↔ (a.toInt + b.toInt < -32768 ∨ 32767 < a.toInt + b.toInt)) ∧
    ((sub16 a b).v = true ↔ (a.toInt - b.toInt < -32768 ∨ 32767 < a.toInt - b.toInt)))

/-- R28: CCR as a byte is `1 ‖ 1 ‖ H ‖ I ‖ N ‖ Z ‖ V ‖ C`, and writing a byte discards bits 7 and 6. -/
def Obligations.ConditionCodeByte : Prop :=
  (∀ f : CCR,
    f.toByte.getLsbD 7 = true ∧ f.toByte.getLsbD 6 = true ∧ f.toByte.getLsbD 5 = f.h ∧
    f.toByte.getLsbD 4 = f.i ∧ f.toByte.getLsbD 3 = f.n ∧ f.toByte.getLsbD 2 = f.z ∧
    f.toByte.getLsbD 1 = f.v ∧ f.toByte.getLsbD 0 = f.c ∧ CCR.ofByte f.toByte = f) ∧
  (∀ v : Byte,
    CCR.ofByte v =
      { h := v.getLsbD 5, i := v.getLsbD 4, n := v.getLsbD 3, z := v.getLsbD 2, v := v.getLsbD 1,
        c := v.getLsbD 0 } ∧
    (CCR.ofByte v).toByte = (v ||| 0xC0))

/-- R20 to R22: each accumulator is written alone, and D is the two of them, A the high byte. -/
def Obligations.AccumulatorsAndD : Prop :=
  ∀ (s : State) (v : Byte) (w : Word),
    s.acc .a = s.a ∧ s.acc .b = s.b ∧
    s.setAcc .a v = { s with a := v } ∧ s.setAcc .b v = { s with b := v } ∧
    s.d.toNat = s.a.toNat * 256 + s.b.toNat ∧
    s.setD w = { s with a := w.extractLsb' 8 8, b := w.extractLsb' 0 8 } ∧
    (s.setD w).d = w

/-- R85 to R87, R97: the effective addresses and the operand values of every mode; and reading an operand, at
any kind of address, changes nothing a program sees: only the model's own record of accesses and count of draws
(log 13, log 18) may differ (R55, R62). -/
def Obligations.OperandForms : Prop :=
  ∀ (s : State) (d off v : Byte) (addr w : Word) (m : MemMode) (o : Operand8) (q : Operand16),
    (ea (.dir d) s).toNat = d.toNat ∧
    (ea (.ind off) s).toNat = (s.x.toNat + off.toNat) % 65536 ∧
    ea (.ext addr) s = addr ∧
    operand8 (.imm v) s = (v, s) ∧
    operand8 (.mem m) s = memRead8 (ea m s) s ∧
    operand16 (.imm w) s = (w, s) ∧
    operand16 (.mem m) s = memRead16 (ea m s) s ∧
    (∃ bus draws, (operand8 o s).2 = withTrace s bus draws) ∧
    (∃ bus draws, (operand16 q s).2 = withTrace s bus draws)

/-! ### Inherent instructions, 00-1F -/

/-- R110, R117 to R122: NOP changes nothing; CLV, SEV, CLC, SEC, CLI and SEI write one condition bit and
nothing else; with their rows of the table. -/
def Obligations.NopAndFlagInstructions : Prop :=
  (∀ s : State,
    exec .nop s = .next s ∧
    exec .clv s = .next { s with ccr := { s.ccr with v := false } } ∧
    exec .sev s = .next { s with ccr := { s.ccr with v := true } } ∧
    exec .clc s = .next { s with ccr := { s.ccr with c := false } } ∧
    exec .sec s = .next { s with ccr := { s.ccr with c := true } } ∧
    exec .cli s = .next { s with ccr := { s.ccr with i := false } } ∧
    exec .sei s = .next { s with ccr := { s.ccr with i := true } }) ∧
  HasRow .nop 0x01 "NOP" .inher 2 1 ∧ HasRow .clv 0x0A "CLV" .inher 2 1 ∧
  HasRow .sev 0x0B "SEV" .inher 2 1 ∧ HasRow .clc 0x0C "CLC" .inher 2 1 ∧
  HasRow .sec 0x0D "SEC" .inher 2 1 ∧ HasRow .cli 0x0E "CLI" .inher 2 1 ∧
  HasRow .sei 0x0F "SEI" .inher 2 1

/-- R111, R112: LSRD halves D, ASLD doubles it modulo 2^16; C is the bit shifted out, V is N xor C, and
A and B are the two bytes of the result. -/
def Obligations.ShiftsOfD : Prop :=
  (∀ s : State,
    (∃ t, exec .lsrd s = .next t ∧ t.d.toNat = s.d.toNat / 2 ∧
      t = { s with a := t.a, b := t.b,
                   ccr := { s.ccr with n := false, z := decide (s.d.toNat / 2 = 0),
                                       v := s.b.getLsbD 0, c := s.b.getLsbD 0 } }) ∧
    (∃ t, exec .asld s = .next t ∧ t.d.toNat = (s.d.toNat * 2) % 65536 ∧
      t = { s with a := t.a, b := t.b,
                   ccr := { s.ccr with n := s.a.getLsbD 6, z := decide ((s.d.toNat * 2) % 65536 = 0),
                                       v := s.a.getLsbD 6 ^^ s.a.getLsbD 7,
                                       c := s.a.getLsbD 7 } })) ∧
  HasRow .lsrd 0x04 "LSRD" .inher 3 1 ∧ HasRow .asld 0x05 "ASLD" .inher 3 1

/-- R113, R114: TAP writes the six bits from A, TPA writes A with the CCR byte; nothing else changes. -/
def Obligations.TransfersOfTheConditionCodes : Prop :=
  (∀ s : State,
    exec .tap s = .next { s with ccr :=
      { h := s.a.getLsbD 5, i := s.a.getLsbD 4, n := s.a.getLsbD 3, z := s.a.getLsbD 2,
        v := s.a.getLsbD 1, c := s.a.getLsbD 0 } } ∧
    (∃ t, exec .tpa s = .next t ∧ t = { s with a := t.a } ∧ 0xC0 ≤ t.a.toNat ∧
      CCR.ofByte t.a = s.ccr)) ∧
  HasRow .tap 0x06 "TAP" .inher 2 1 ∧ HasRow .tpa 0x07 "TPA" .inher 2 1

/-- R115, R116: INX and DEX count X modulo 2^16 and write Z alone. -/
def Obligations.CountingX : Prop :=
  (∀ s : State,
    exec .inx s = .next { s with x := s.x + 1, ccr := { s.ccr with z := decide (s.x = 0xFFFF) } } ∧
    exec .dex s = .next { s with x := s.x - 1, ccr := { s.ccr with z := decide (s.x = 0x0001) } }) ∧
  HasRow .inx 0x08 "INX" .inher 3 1 ∧ HasRow .dex 0x09 "DEX" .inher 3 1

/-- R123 to R126, R128: SBA, CBA, ABA, TAB, TBA. -/
def Obligations.AccumulatorToAccumulator : Prop :=
  (∀ s : State,
    let d := sub8 s.a s.b false
    let q := add8 s.a s.b false
    exec .sba s = .next
      { s with a := d.r, ccr := { s.ccr with n := d.n, z := d.z, v := d.v, c := d.c } } ∧
    exec .cba s = .next
      { s with ccr := { s.ccr with n := d.n, z := d.z, v := d.v, c := d.c } } ∧
    exec .aba s = .next
      { s with a := q.r, ccr := { s.ccr with h := halfCarry s.a s.b false, n := q.n, z := q.z,
                                             v := q.v, c := q.c } } ∧
    exec .tab s = .next
      { s with b := s.a, ccr := { s.ccr with n := s.a.getLsbD 7, z := decide (s.a = 0), v := false } } ∧
    exec .tba s = .next
      { s with a := s.b, ccr := { s.ccr with n := s.b.getLsbD 7, z := decide (s.b = 0), v := false } }) ∧
  HasRow .sba 0x10 "SBA" .inher 2 1 ∧ HasRow .cba 0x11 "CBA" .inher 2 1 ∧
  HasRow .tab 0x16 "TAB" .inher 2 1 ∧ HasRow .tba 0x17 "TBA" .inher 2 1 ∧
  HasRow .aba 0x1B "ABA" .inher 2 1

/-- R127: DAA adds the correction of the rule to A and writes N, Z and C; V is some value, which the
statement leaves open (log 9), and H, I and everything else are unchanged but for the model's counter `draws`
(log 18). -/
def Obligations.DecimalAdjust : Prop :=
  (∀ s : State,
    let lo := s.a.toNat % 16
    let hi := s.a.toNat / 16
    let addLow : Bool := s.ccr.h || decide (9 < lo)
    let addHigh : Bool := s.ccr.c || decide (9 < hi) || (decide (9 ≤ hi) && decide (9 < lo))
    let r : Byte := BitVec.ofNat 8
      (s.a.toNat + (if addLow then 6 else 0) + (if addHigh then 96 else 0))
    ∃ (v : Bool) (draws : Nat), exec .daa s = .next
      { s with a := r, draws := draws,
               ccr := { s.ccr with n := r.getLsbD 7, z := decide (r = 0), v := v, c := addHigh } }) ∧
  HasRow .daa 0x19 "DAA" .inher 2 1

/-- R127, "Intended use": after ADCA of two packed BCD bytes, DAA leaves the BCD sum in A and its decimal
carry in C. -/
def Obligations.DecimalAdjustGivesTheBcdSum : Prop :=
  ∀ (s t u : State) (v : Byte) (p q : Nat), p < 100 → q < 100 →
    s.a = BitVec.ofNat 8 (p / 10 * 16 + p % 10) → v = BitVec.ofNat 8 (q / 10 * 16 + q % 10) →
    exec (.adcaImm v) s = .next t → exec .daa t = .next u →
      u.a.toNat = (p + q + s.ccr.c.toNat) % 100 / 10 * 16 + (p + q + s.ccr.c.toNat) % 10 ∧
      (u.ccr.c = true ↔ 100 ≤ p + q + s.ccr.c.toNat)

/-! ### Branches, 20-2F -/

/-- R130 to R146: the sixteen branches: the condition, the target, and that nothing but PC is written. -/
def Obligations.RelativeBranches : Prop :=
  (∀ (s : State) (rel : Byte) (k : Branch),
    let f := s.ccr
    let cond : Bool :=
      match k with
      | .bra => true
      | .brn => false
      | .bhi => !(f.c || f.z)
      | .bls => f.c || f.z
      | .bcc => !f.c
      | .bcs => f.c
      | .bne => !f.z
      | .beq => f.z
      | .bvc => !f.v
      | .bvs => f.v
      | .bpl => !f.n
      | .bmi => f.n
      | .bge => !(f.n ^^ f.v)
      | .blt => f.n ^^ f.v
      | .bgt => !(f.z || (f.n ^^ f.v))
      | .ble => f.z || (f.n ^^ f.v)
    exec (branchForm k rel) s = .next
      { s with pc := if cond then BitVec.ofInt 16 (s.pc.toNat + rel.toInt) else s.pc }) ∧
  (∀ rel : Byte,
    HasRow (.bra rel) 0x20 "BRA" .rel 3 2 ∧ HasRow (.brn rel) 0x21 "BRN" .rel 3 2 ∧
    HasRow (.bhi rel) 0x22 "BHI" .rel 3 2 ∧ HasRow (.bls rel) 0x23 "BLS" .rel 3 2 ∧
    HasRow (.bcc rel) 0x24 "BCC" .rel 3 2 ∧ HasRow (.bcs rel) 0x25 "BCS" .rel 3 2 ∧
    HasRow (.bne rel) 0x26 "BNE" .rel 3 2 ∧ HasRow (.beq rel) 0x27 "BEQ" .rel 3 2 ∧
    HasRow (.bvc rel) 0x28 "BVC" .rel 3 2 ∧ HasRow (.bvs rel) 0x29 "BVS" .rel 3 2 ∧
    HasRow (.bpl rel) 0x2A "BPL" .rel 3 2 ∧ HasRow (.bmi rel) 0x2B "BMI" .rel 3 2 ∧
    HasRow (.bge rel) 0x2C "BGE" .rel 3 2 ∧ HasRow (.blt rel) 0x2D "BLT" .rel 3 2 ∧
    HasRow (.bgt rel) 0x2E "BGT" .rel 3 2 ∧ HasRow (.ble rel) 0x2F "BLE" .rel 3 2)

/-- R133 to R138 and R143 to R146, with the corner cases of R124, R133, R135, R136, R143 and R145: after CMPA,
CMPB, SUBA or SUBB with an operand in any mode, and after CBA and SBA, the ten branches BHI, BLS, BCC, BCS, BNE,
BEQ, BGE, BLT, BGT and BLE compare the register with the operand as the two stood before, unsigned or signed.
(BPL, BMI, BVC and BVS test one flag and compare nothing; `RelativeBranches` has them.) -/
def Obligations.BranchesAfterACompare : Prop :=
  ∀ (rel : Byte) (s t : State),
    let goes (k : Branch) (p : Prop) : Prop :=
      (p → exec (branchForm k rel) t = .next { t with pc := t.pc + rel.signExtend 16 }) ∧
      (¬ p → exec (branchForm k rel) t = .next t)
    let compared (a m : Byte) : Prop :=
      goes .bhi (m.toNat < a.toNat) ∧ goes .bls (a.toNat ≤ m.toNat) ∧
      goes .bcc (m.toNat ≤ a.toNat) ∧ goes .bcs (a.toNat < m.toNat) ∧
      goes .bne (a ≠ m) ∧ goes .beq (a = m) ∧
      goes .bge (m.toInt ≤ a.toInt) ∧ goes .blt (a.toInt < m.toInt) ∧
      goes .bgt (m.toInt < a.toInt) ∧ goes .ble (a.toInt ≤ m.toInt)
    (∀ (r : Acc) (o : Operand8),
      exec (cmpForm r o) s = .next t ∨ exec (subForm r o) s = .next t →
        compared (s.acc r) (operand8 o s).1) ∧
    (exec .cba s = .next t ∨ exec .sba s = .next t → compared s.a s.b)

/-! ### Stack, index, multiply and interrupt instructions, 30-3F -/

/-- R150, R151, R154, R155, R160: TSX, INS, DES, TXS and ABX, modulo 2^16 and without a flag; and TXS
undoes TSX. -/
def Obligations.StackPointerAndIndex : Prop :=
  (∀ s : State,
    exec .tsx s = .next { s with x := s.sp + 1 } ∧
    exec .ins s = .next { s with sp := s.sp + 1 } ∧
    exec .des s = .next { s with sp := s.sp - 1 } ∧
    exec .txs s = .next { s with sp := s.x - 1 } ∧
    exec .abx s = .next { s with x := BitVec.ofNat 16 (s.x.toNat + s.b.toNat) } ∧
    (∀ t, exec .tsx s = .next t → exec .txs t = .next { t with sp := s.sp })) ∧
  HasRow .tsx 0x30 "TSX" .inher 3 1 ∧ HasRow .ins 0x31 "INS" .inher 3 1 ∧
  HasRow .des 0x34 "DES" .inher 3 1 ∧ HasRow .txs 0x35 "TXS" .inher 3 1 ∧
  HasRow .abx 0x3A "ABX" .inher 3 1

/-- R156, R157, R162: PSHA, PSHB and PSHX store at SP, the low byte of X first, and lower SP; no flag and no
other register changes. -/
def Obligations.Pushes : Prop :=
  (∀ s : State,
    exec .psha s = .next { memWrite8 s.sp s.a s with sp := s.sp - 1 } ∧
    exec .pshb s = .next { memWrite8 s.sp s.b s with sp := s.sp - 1 } ∧
    exec .pshx s = .next
      { memWrite8 (s.sp - 1) (hiByte s.x) (memWrite8 s.sp (loByte s.x) s) with sp := s.sp - 2 }) ∧
  HasRow .psha 0x36 "PSHA" .inher 3 1 ∧ HasRow .pshb 0x37 "PSHB" .inher 3 1 ∧
  HasRow .pshx 0x3C "PSHX" .inher 4 1

/-- R152, R153, R158, R159: PULA, PULB, PULX and RTS raise SP and load what stands there, the high byte from
the lower address; nothing else a program sees changes. -/
def Obligations.Pulls : Prop :=
  (∀ s : State,
    let one := memRead8 (s.sp + 1) { s with sp := s.sp + 1 }
    let two := memRead8 (s.sp + 2) { one.2 with sp := s.sp + 2 }
    exec .pula s = .next { one.2 with a := one.1 } ∧
    exec .pulb s = .next { one.2 with b := one.1 } ∧
    exec .pulx s = .next { two.2 with x := join one.1 two.1 } ∧
    exec .rts s = .next { two.2 with pc := join one.1 two.1 }) ∧
  HasRow .pula 0x32 "PULA" .inher 4 1 ∧ HasRow .pulb 0x33 "PULB" .inher 4 1 ∧
  HasRow .pulx 0x38 "PULX" .inher 5 1 ∧ HasRow .rts 0x39 "RTS" .inher 5 1

/-- R161: RTI pulls CCR, B, A, X and PC, in that order. So it completes in every state, raises SP by seven,
changes no memory, and, where the seven addresses above SP hold bytes, loads the registers from them as the
frame places them. -/
def Obligations.ReturnFromInterrupt : Prop :=
  (∀ s : State,
    let f := pull8 s
    let b := pull8 f.2
    let a := pull8 b.2
    let x := pull16 a.2
    let p := pull16 x.2
    exec .rti s = .next
      { p.2 with ccr := CCR.ofByte f.1, b := b.1, a := a.1, x := x.1, pc := p.1 }) ∧
  (∀ s : State, ∃ t, exec .rti s = .next t ∧
    t.sp = s.sp + 7 ∧ t.mem = s.mem ∧ t.waiting = s.waiting ∧ t.platform = s.platform ∧
    t.inputs = s.inputs ∧
    ((∀ k : Nat, 1 ≤ k → k ≤ 7 → (kindAt s.platform (s.sp + BitVec.ofNat 16 k)).holdsByte = true) →
      t.ccr = CCR.ofByte (s.mem.read (s.sp + 1).toNat) ∧
      t.b = s.mem.read (s.sp + 2).toNat ∧
      t.a = s.mem.read (s.sp + 3).toNat ∧
      t.x = join (s.mem.read (s.sp + 4).toNat) (s.mem.read (s.sp + 5).toNat) ∧
      t.pc = join (s.mem.read (s.sp + 6).toNat) (s.mem.read (s.sp + 7).toNat))) ∧
  HasRow .rti 0x3B "RTI" .inher 10 1

/-- R163: MUL gives the unsigned product in D and its bit 7 in C, and changes nothing else. -/
def Obligations.Multiply : Prop :=
  (∀ s : State, ∃ t, exec .mul s = .next t ∧ t.d.toNat = s.a.toNat * s.b.toNat ∧
    t = { s with a := t.a, b := t.b,
                 ccr := { s.ccr with c := (s.a.toNat * s.b.toNat).testBit 7 } }) ∧
  HasRow .mul 0x3D "MUL" .inher 10 1

/-- R255: the frame. Seven bytes are stored from SP downwards as the table places them, SP ends seven
lower, and every other byte and every register keeps its value. The last clause, the seven writes in that order,
is said of the model's own record (log 13). -/
def Obligations.StackAllLaysTheFrame : Prop :=
  ∀ s : State, StackInStorage s.platform s.sp 7 → MemoryCanonical s →
    FrameAt (stackAll s).mem s.sp s ∧
    (∀ addr : Word, addr ∉ stackBelow s.sp 7 →
      (stackAll s).mem.read addr.toNat = s.mem.read addr.toNat) ∧
    (stackAll s) = { s with sp := s.sp - 7, mem := (stackAll s).mem, bus := (stackAll s).bus } ∧
    (stackAll s).bus = s.bus ++
      [.write s.sp (loByte s.pc), .write (s.sp - 1) (hiByte s.pc), .write (s.sp - 2) (loByte s.x),
       .write (s.sp - 3) (hiByte s.x), .write (s.sp - 4) s.a, .write (s.sp - 5) s.b,
       .write (s.sp - 6) s.ccr.toByte]

/-- R164, R165: WAI pushes PC, X, A, B and CCR and enters the wait, I unchanged; SWI pushes the same with the
old I, sets I, whatever it was, and loads PC from `VEC.swi`. -/
def Obligations.WaitAndSoftwareInterrupt : Prop :=
  (∀ s : State,
    let frame := push8 s.ccr.toByte (push8 s.b (push8 s.a (push16 s.x (push16 s.pc s))))
    exec .wai s = .next { frame with waiting := true } ∧
    (let f := { frame with ccr := { s.ccr with i := true } }
     let hi := memRead8 s.platform.vecSwi f
     let lo := memRead8 (s.platform.vecSwi + 1) hi.2
     exec .swi s = .next { lo.2 with pc := join hi.1 lo.1 })) ∧
  HasRow .wai 0x3E "WAI" .inher 9 1 ∧ HasRow .swi 0x3F "SWI" .inher 12 1

/-- R161, R255, R261: RTI undoes SWI. A handler that ends with the stack pointer it was entered with and the
seven stacked bytes as they were returns to the registers, flags and PC of the interrupted program,
whatever else it has done. -/
def Obligations.ReturnUndoesSoftwareInterrupt : Prop :=
  ∀ s t u : State, StackInStorage s.platform s.sp 7 → MemoryCanonical s →
    exec .swi s = .next t →
    u.sp = t.sp → u.platform = t.platform →
    (∀ addr : Word, addr ∈ stackBelow s.sp 7 → u.mem.read addr.toNat = t.mem.read addr.toNat) →
    ∃ w, exec .rti u = .next w ∧ w.a = s.a ∧ w.b = s.b ∧ w.x = s.x ∧ w.sp = s.sp ∧ w.pc = s.pc ∧
      w.ccr = s.ccr ∧ w.mem = u.mem

/-- R159, R223, R224: RTS returns from a call. A subroutine entered by BSR or JSR in any mode that ends with
the stack pointer it was entered with and the two stacked bytes as they were returns to the address after
the call. -/
def Obligations.ReturnFromSubroutine : Prop :=
  ∀ (s t u : State) (i : Instr), StackInStorage s.platform s.sp 2 → MemoryCanonical s →
    ((∃ rel, i = .bsr rel) ∨ (∃ m, i = jsrForm m)) → exec i s = .next t →
    u.sp = t.sp → u.platform = t.platform →
    (∀ addr : Word, addr ∈ stackBelow s.sp 2 → u.mem.read addr.toNat = t.mem.read addr.toNat) →
    ∃ w, exec .rts u = .next w ∧ w.pc = s.pc ∧ w.sp = s.sp ∧ w.mem = u.mem ∧ w.ccr = u.ccr

/-! ### Unary operations and jumps, 40-7F -/

/-- R171, R182, R193, R172, R183, R194: NEG and COM on A, B and memory. -/
def Obligations.NegateAndComplement : Prop :=
  (∀ (s : State) (r : Acc),
    let v := s.acc r
    let q := sub8 0 v false
    exec (negForm (.acc r)) s = .next
      { s.setAcc r q.r with ccr := { s.ccr with n := q.n, z := q.z, v := q.v, c := q.c } } ∧
    exec (comForm (.acc r)) s = .next
      { s.setAcc r (~~~v) with ccr := { s.ccr with n := (~~~v).getLsbD 7, z := decide (~~~v = 0),
                                                   v := false, c := true } }) ∧
  (∀ (s : State) (u : UnaryForm) (m : MemMode),
    ((∃ off, u = .ind off ∧ m = .ind off) ∨ (∃ addr, u = .ext addr ∧ m = .ext addr)) →
    let v := (memRead8 (ea m s) s).1
    let s1 := (memRead8 (ea m s) s).2
    let q := sub8 0 v false
    exec (negForm u) s = .next
      { memWrite8 (ea m s) q.r s1 with ccr := { s.ccr with n := q.n, z := q.z, v := q.v, c := q.c } } ∧
    exec (comForm u) s = .next
      { memWrite8 (ea m s) (~~~v) s1 with
        ccr := { s.ccr with n := (~~~v).getLsbD 7, z := decide (~~~v = 0), v := false, c := true } }) ∧
  UnaryRows negForm "NEGA" "NEGB" "NEG" 0x40 ∧ UnaryRows comForm "COMA" "COMB" "COM" 0x43

/-- R173 to R177, R184 to R188, R195 to R199: the shifts and rotates LSR, ROR, ASR, ASL, ROL on A, B and
memory. `res` is the result and `out` the bit shifted out; N, Z from the result, C is `out`, V is N xor C. -/
def Obligations.ShiftsAndRotates : Prop :=
  let good (f : UnaryForm → Instr) (res : Byte → Bool → Byte) (out : Byte → Bool) : Prop :=
    (∀ (s : State) (r : Acc),
      let q := res (s.acc r) s.ccr.c
      let c := out (s.acc r)
      exec (f (.acc r)) s = .next
        { s.setAcc r q with ccr := { s.ccr with n := q.getLsbD 7, z := decide (q = 0),
                                                v := q.getLsbD 7 ^^ c, c := c } }) ∧
    (∀ (s : State) (u : UnaryForm) (m : MemMode),
      ((∃ off, u = .ind off ∧ m = .ind off) ∨ (∃ addr, u = .ext addr ∧ m = .ext addr)) →
      let p := memRead8 (ea m s) s
      let q := res p.1 s.ccr.c
      let c := out p.1
      exec (f u) s = .next
        { memWrite8 (ea m s) q p.2 with
          ccr := { s.ccr with n := q.getLsbD 7, z := decide (q = 0), v := q.getLsbD 7 ^^ c, c := c } })
  good lsrForm (fun v _ => BitVec.ofNat 8 (v.toNat / 2)) (fun v => v.getLsbD 0) ∧
  good rorForm (fun v c => BitVec.ofNat 8 (v.toNat / 2 + 128 * c.toNat)) (fun v => v.getLsbD 0) ∧
  good asrForm (fun v _ => BitVec.ofInt 8 (v.toInt / 2)) (fun v => v.getLsbD 0) ∧
  good aslForm (fun v _ => BitVec.ofNat 8 (v.toNat * 2)) (fun v => v.getLsbD 7) ∧
  good rolForm (fun v c => BitVec.ofNat 8 (v.toNat * 2 + c.toNat)) (fun v => v.getLsbD 7) ∧
  UnaryRows lsrForm "LSRA" "LSRB" "LSR" 0x44 ∧ UnaryRows rorForm "RORA" "RORB" "ROR" 0x46 ∧
  UnaryRows asrForm "ASRA" "ASRB" "ASR" 0x47 ∧ UnaryRows aslForm "ASLA" "ASLB" "ASL" 0x48 ∧
  UnaryRows rolForm "ROLA" "ROLB" "ROL" 0x49

/-- R178, R179, R189, R190, R200, R201: DEC and INC on A, B and memory: N, Z and V are written, C is not. -/
def Obligations.IncrementAndDecrement : Prop :=
  (∀ (s : State) (r : Acc),
    let v := s.acc r
    exec (decForm (.acc r)) s = .next
      { s.setAcc r (v - 1) with ccr := { s.ccr with n := (v - 1).getLsbD 7, z := decide (v = 0x01),
                                                    v := decide (v = 0x80) } } ∧
    exec (incForm (.acc r)) s = .next
      { s.setAcc r (v + 1) with ccr := { s.ccr with n := (v + 1).getLsbD 7, z := decide (v = 0xFF),
                                                    v := decide (v = 0x7F) } }) ∧
  (∀ (s : State) (u : UnaryForm) (m : MemMode),
    ((∃ off, u = .ind off ∧ m = .ind off) ∨ (∃ addr, u = .ext addr ∧ m = .ext addr)) →
    let v := (memRead8 (ea m s) s).1
    let s1 := (memRead8 (ea m s) s).2
    exec (decForm u) s = .next
      { memWrite8 (ea m s) (v - 1) s1 with
        ccr := { s.ccr with n := (v - 1).getLsbD 7, z := decide (v = 0x01), v := decide (v = 0x80) } } ∧
    exec (incForm u) s = .next
      { memWrite8 (ea m s) (v + 1) s1 with
        ccr := { s.ccr with n := (v + 1).getLsbD 7, z := decide (v = 0xFF), v := decide (v = 0x7F) } }) ∧
  UnaryRows decForm "DECA" "DECB" "DEC" 0x4A ∧ UnaryRows incForm "INCA" "INCB" "INC" 0x4C

/-- R180, R191, R202, R181, R192, R204: TST writes flags only; CLR on memory reads the byte, then writes
$00 (R56). -/
def Obligations.TestAndClear : Prop :=
  (∀ (s : State) (r : Acc),
    let v := s.acc r
    exec (tstForm (.acc r)) s = .next
      { s with ccr := { s.ccr with n := v.getLsbD 7, z := decide (v = 0), v := false, c := false } } ∧
    exec (clrForm (.acc r)) s = .next
      { s.setAcc r 0 with ccr := { s.ccr with n := false, z := true, v := false, c := false } }) ∧
  (∀ (s : State) (u : UnaryForm) (m : MemMode),
    ((∃ off, u = .ind off ∧ m = .ind off) ∨ (∃ addr, u = .ext addr ∧ m = .ext addr)) →
    let v := (memRead8 (ea m s) s).1
    let s1 := (memRead8 (ea m s) s).2
    exec (tstForm u) s = .next
      { s1 with ccr := { s.ccr with n := v.getLsbD 7, z := decide (v = 0), v := false, c := false } } ∧
    exec (clrForm u) s = .next
      { memWrite8 (ea m s) 0 s1 with
        ccr := { s.ccr with n := false, z := true, v := false, c := false } }) ∧
  UnaryRows tstForm "TSTA" "TSTB" "TST" 0x4D ∧ UnaryRows clrForm "CLRA" "CLRB" "CLR" 0x4F

/-- R203, R223, R224: JMP goes to the effective address; BSR and JSR push PC, low byte first, and go to their
target, computed before the push; no flag is written. -/
def Obligations.JumpsAndCalls : Prop :=
  (∀ (s : State) (off rel : Byte) (addr : Word) (m : MemMode),
    let pushed := memWrite8 (s.sp - 1) (hiByte s.pc) (memWrite8 s.sp (loByte s.pc) s)
    exec (.jmpInd off) s = .next { s with pc := ea (.ind off) s } ∧
    exec (.jmpExt addr) s = .next { s with pc := addr } ∧
    exec (.bsr rel) s = .next
      { pushed with sp := s.sp - 2, pc := BitVec.ofInt 16 (s.pc.toNat + rel.toInt) } ∧
    exec (jsrForm m) s = .next { pushed with sp := s.sp - 2, pc := ea m s }) ∧
  (∀ (off rel : Byte) (addr : Word),
    HasRow (.jmpInd off) 0x6E "JMP" .indxd 3 2 ∧ HasRow (.jmpExt addr) 0x7E "JMP" .extnd 3 3 ∧
    HasRow (.bsr rel) 0x8D "BSR" .rel 6 2) ∧
  MemRows jsrForm "JSR" 0x9D 5

/-! ### Accumulator and 16-bit groups, 80-FF -/

/-- R221, R241, R219, R239: ADDA, ADDB, ADCA, ADCB in every mode. -/
def Obligations.AddToAccumulator : Prop :=
  (∀ (r : Acc) (o : Operand8) (s : State),
    let m := (operand8 o s).1
    let s1 := (operand8 o s).2
    let q := add8 (s.acc r) m false
    let k := add8 (s.acc r) m s.ccr.c
    exec (addForm r o) s = .next
      { s1.setAcc r q.r with ccr := { s.ccr with h := halfCarry (s.acc r) m false, n := q.n, z := q.z,
                                                 v := q.v, c := q.c } } ∧
    exec (adcForm r o) s = .next
      { s1.setAcc r k.r with ccr := { s.ccr with h := halfCarry (s.acc r) m s.ccr.c, n := k.n, z := k.z,
                                                 v := k.v, c := k.c } }) ∧
  AccRows (addForm .a) "ADDA" 0x8B ∧ AccRows (addForm .b) "ADDB" 0xCB ∧
  AccRows (adcForm .a) "ADCA" 0x89 ∧ AccRows (adcForm .b) "ADCB" 0xC9

/-- R210 to R212, R230 to R232: SUBA, SUBB, SBCA, SBCB, CMPA, CMPB in every mode; a compare writes the flags
of the subtraction and no register. -/
def Obligations.SubtractAndCompare : Prop :=
  (∀ (r : Acc) (o : Operand8) (s : State),
    let m := (operand8 o s).1
    let s1 := (operand8 o s).2
    let q := sub8 (s.acc r) m false
    let k := sub8 (s.acc r) m s.ccr.c
    exec (subForm r o) s = .next
      { s1.setAcc r q.r with ccr := { s.ccr with n := q.n, z := q.z, v := q.v, c := q.c } } ∧
    exec (sbcForm r o) s = .next
      { s1.setAcc r k.r with ccr := { s.ccr with n := k.n, z := k.z, v := k.v, c := k.c } } ∧
    exec (cmpForm r o) s = .next
      { s1 with ccr := { s.ccr with n := q.n, z := q.z, v := q.v, c := q.c } }) ∧
  AccRows (subForm .a) "SUBA" 0x80 ∧ AccRows (subForm .b) "SUBB" 0xC0 ∧
  AccRows (sbcForm .a) "SBCA" 0x82 ∧ AccRows (sbcForm .b) "SBCB" 0xC2 ∧
  AccRows (cmpForm .a) "CMPA" 0x81 ∧ AccRows (cmpForm .b) "CMPB" 0xC1

/-- R214, R215, R218, R220, R234, R235, R238, R240: AND, BIT, EOR, OR of an accumulator in every mode: N, Z
from the result, V cleared, C kept. -/
def Obligations.LogicalOperations : Prop :=
  (∀ (r : Acc) (o : Operand8) (s : State),
    let a := s.acc r
    let m := (operand8 o s).1
    let s1 := (operand8 o s).2
    let flags (q : Byte) : CCR := { s.ccr with n := q.getLsbD 7, z := decide (q = 0), v := false }
    exec (andForm r o) s = .next { s1.setAcc r (a &&& m) with ccr := flags (a &&& m) } ∧
    exec (bitForm r o) s = .next { s1 with ccr := flags (a &&& m) } ∧
    exec (eorForm r o) s = .next { s1.setAcc r (a ^^^ m) with ccr := flags (a ^^^ m) } ∧
    exec (oraForm r o) s = .next { s1.setAcc r (a ||| m) with ccr := flags (a ||| m) }) ∧
  AccRows (andForm .a) "ANDA" 0x84 ∧ AccRows (andForm .b) "ANDB" 0xC4 ∧
  AccRows (bitForm .a) "BITA" 0x85 ∧ AccRows (bitForm .b) "BITB" 0xC5 ∧
  AccRows (eorForm .a) "EORA" 0x88 ∧ AccRows (eorForm .b) "EORB" 0xC8 ∧
  AccRows (oraForm .a) "ORAA" 0x8A ∧ AccRows (oraForm .b) "ORAB" 0xCA

/-- R216, R217, R236, R237: LDAA, LDAB in every mode, STAA, STAB in theirs; the store is at EA and no other
byte changes (its frame is `StoresReachOnlyTheirAddresses`). -/
def Obligations.LoadAndStoreAccumulator : Prop :=
  (∀ (r : Acc) (o : Operand8) (m : MemMode) (s : State),
    let flags (q : Byte) : CCR := { s.ccr with n := q.getLsbD 7, z := decide (q = 0), v := false }
    exec (ldaForm r o) s = .next
      { (operand8 o s).2.setAcc r (operand8 o s).1 with ccr := flags (operand8 o s).1 } ∧
    exec (staForm r m) s = .next
      { memWrite8 (ea m s) (s.acc r) s with ccr := flags (s.acc r) }) ∧
  AccRows (ldaForm .a) "LDAA" 0x86 ∧ AccRows (ldaForm .b) "LDAB" 0xC6 ∧
  MemRows (staForm .a) "STAA" 0x97 3 ∧ MemRows (staForm .b) "STAB" 0xD7 3

/-- R213, R222, R233: SUBD, ADDD and CPX in every mode, with the flags of the 16-bit operation. -/
def Obligations.SixteenBitArithmetic : Prop :=
  (∀ (o : Operand16) (s : State),
    let m := (operand16 o s).1
    let s1 := (operand16 o s).2
    let d := sub16 s.d m
    let q := add16 s.d m
    let x := sub16 s.x m
    exec (subdForm o) s = .next
      { s1.setD d.r with ccr := { s.ccr with n := d.n, z := d.z, v := d.v, c := d.c } } ∧
    exec (adddForm o) s = .next
      { s1.setD q.r with ccr := { s.ccr with n := q.n, z := q.z, v := q.v, c := q.c } } ∧
    exec (cpxForm o) s = .next
      { s1 with ccr := { s.ccr with n := x.n, z := x.z, v := x.v, c := x.c } }) ∧
  WordRows subdForm "SUBD" 0x83 4 ∧ WordRows adddForm "ADDD" 0xC3 4 ∧ WordRows cpxForm "CPX" 0x8C 4

/-- R225, R226, R242 to R245: LDD, LDX, LDS in every mode and STD, STX, STS in theirs: N, Z of the 16-bit
value, V cleared; a store writes the high byte at EA and the low byte at EA + 1. -/
def Obligations.SixteenBitLoadsAndStores : Prop :=
  (∀ (o : Operand16) (m : MemMode) (s : State),
    let v := (operand16 o s).1
    let s1 := (operand16 o s).2
    let flags (q : Word) : CCR := { s.ccr with n := q.getLsbD 15, z := decide (q = 0), v := false }
    let stored (q : Word) : State :=
      { memWrite8 (ea m s + 1) (loByte q) (memWrite8 (ea m s) (hiByte q) s) with ccr := flags q }
    exec (lddForm o) s = .next { s1 with a := hiByte v, b := loByte v, ccr := flags v } ∧
    exec (ldxForm o) s = .next { s1 with x := v, ccr := flags v } ∧
    exec (ldsForm o) s = .next { s1 with sp := v, ccr := flags v } ∧
    exec (stdForm m) s = .next (stored s.d) ∧
    exec (stxForm m) s = .next (stored s.x) ∧
    exec (stsForm m) s = .next (stored s.sp)) ∧
  WordRows lddForm "LDD" 0xCC 3 ∧ WordRows ldxForm "LDX" 0xCE 3 ∧ WordRows ldsForm "LDS" 0x8E 3 ∧
  MemRows stdForm "STD" 0xDD 4 ∧ MemRows stxForm "STX" 0xDF 4 ∧ MemRows stsForm "STS" 0x9F 4

/-! ### All instructions -/

/-- R251: no instruction can trap on its operands: every one of the 220 completes in every state. -/
def Obligations.NoInstructionTraps : Prop :=
  ∀ (i : Instr) (s : State), Answers (exec i s)

/-- R35, R29, R30: a condition bit changes only by an instruction that R35 names as writing it. -/
def Obligations.OnlyNamedInstructionsWriteFlags : Prop :=
  ∀ (i : Instr) (s t : State), exec i s = .next t →
    (t.ccr.h ≠ s.ccr.h → mnemonicOf i ∈ writesH) ∧
    (t.ccr.i ≠ s.ccr.i → mnemonicOf i ∈ writesI) ∧
    (t.ccr.n ≠ s.ccr.n → mnemonicOf i ∈ writesN) ∧
    (t.ccr.z ≠ s.ccr.z → mnemonicOf i ∈ writesZ) ∧
    (t.ccr.v ≠ s.ccr.v → mnemonicOf i ∈ writesV) ∧
    (t.ccr.c ≠ s.ccr.c → mnemonicOf i ∈ writesC)

/-- R20 to R26, R36, R41: a register changes only by an instruction named as writing it; the wait flag only
by WAI; the platform and the environment's inputs, which the model holds in State (log 4, log 6), by none. -/
def Obligations.OnlyNamedInstructionsWriteRegisters : Prop :=
  ∀ (i : Instr) (s t : State), exec i s = .next t →
    (t.a ≠ s.a → mnemonicOf i ∈ writesA) ∧
    (t.b ≠ s.b → mnemonicOf i ∈ writesB) ∧
    (t.x ≠ s.x → mnemonicOf i ∈ writesX) ∧
    (t.sp ≠ s.sp → mnemonicOf i ∈ writesSP) ∧
    (t.pc ≠ s.pc → mnemonicOf i ∈ writesPC) ∧
    (t.waiting ≠ s.waiting → i = .wai) ∧
    t.platform = s.platform ∧ t.inputs = s.inputs

/-- R55, R56: an instruction changes no byte of memory outside the addresses it stores to, computed from the
state it starts in; one that stores nothing changes none. -/
def Obligations.StoresReachOnlyTheirAddresses : Prop :=
  ∀ (i : Instr) (s t : State), exec i s = .next t →
    ∀ addr : Word, addr ∉ storesTo i s → t.mem.read addr.toNat = s.mem.read addr.toNat

/-! ### The machine -/

/-- R14, R65: where the step runs an instruction (no reset, no eligible interrupt, no wait, and PC, X and SP at
no address whose read has a side effect) and the bytes at PC, in storage or rom, decode to it, the step is
`exec` of it in the state after the fetch, but that a step which reaches an address whose read has a side
effect is refused (R57, log 11); on a platform without such addresses the step is just `exec`. Where PC, X or
SP does point at one, `RefusedOnlyAtReadEffects` says that the step is refused. The accesses recorded by the
fetch are the model's own field `bus` (log 13). -/
def Obligations.StepRunsTheDecodedInstruction : Prop :=
  ∀ (s : State) (bytes : List Byte) (i : Instr),
    RunsInstruction s → BytesAtPc s bytes → decode bytes = .ok (i, []) →
      step s = guardBus (exec i (afterFetch s bytes)) ∧
      (NoReadEffects s.platform → step s = exec i (afterFetch s bytes))

/-- R13, R91, R251: where the step would run an instruction and PC addresses an unassigned byte in storage or
rom, it faults with that byte and PC; and this is the only fault there is: a step faults only where it runs an
instruction and the byte it fetches at PC is one of the 36, and the fault names that byte and PC. -/
def Obligations.OnlyUnassignedOpcodesFault : Prop :=
  (∀ (s : State) (op : Byte), RunsInstruction s → BytesAtPc s [op] → op ∈ unassignedOpcodes →
    step s = .fault (.illegalOpcode op s.pc)) ∧
  (∀ (s : State) (e : Fault), step s = .fault e →
    RunsInstruction s ∧ ∃ op, op ∈ unassignedOpcodes ∧ op = readValue s.pc s ∧
      fetchInstr (beginStep s) = .error op ∧ e = .illegalOpcode op s.pc)

/-- R57, decision D19, as log 11 reads them: a refused step names an address whose read the platform declares
to have a side effect, and PC, X or SP points at it, or what the step does without reset accesses it, or it is
a byte of the vector that a reset reads. The other way round: unless reset is asserted at the boundary itself,
a step with PC, X or SP at such an address is refused, whether it would run an instruction, take an interrupt,
stay in the wait or be cut by a reset; and so is one that, without a reset, accesses one. On a platform
without such addresses no step is refused. -/
def Obligations.RefusedOnlyAtReadEffects : Prop :=
  ∀ s : State,
    let points (addr : Word) : Prop := addr = s.pc ∨ addr = s.x ∨ addr = s.sp
    let accesses (addr : Word) : Prop :=
      ∃ t, runBoundary (presented s).asserted (beginStep s) = .next t ∧ addr ∈ t.bus.map accessAddr
    let readsResetVector (addr : Word) : Prop :=
      (presented s).reset ≠ none ∧ (addr = s.platform.vecReset ∨ addr = s.platform.vecReset + 1)
    (∀ e : Refusal, step s = .refused e →
      ∃ addr, e = .busActivityUnknown addr ∧ hasReadEffect s.platform addr = true ∧
        (points addr ∨ accesses addr ∨ readsResetVector addr)) ∧
    ((presented s).reset ≠ some 0 → (∃ addr, points addr ∧ hasReadEffect s.platform addr = true) →
      ∃ addr, points addr ∧ step s = .refused (.busActivityUnknown addr)) ∧
    ((presented s).reset ≠ some 0 → (∃ addr, accesses addr ∧ hasReadEffect s.platform addr = true) →
      ∃ addr, accesses addr ∧ step s = .refused (.busActivityUnknown addr)) ∧
    (NoReadEffects s.platform → ∀ e : Refusal, step s ≠ .refused e)

/-- R257, R270: the source taken at a boundary is the first in priority order that is asserted and either
not maskable or I is 0; where none is, none is taken; and taking it is the whole step, where PC, X and SP
point at no address whose read has a side effect (where one does, the step is refused: R57, log 11,
`RefusedOnlyAtReadEffects`). The list of sources stands in State (log 4, log 20), what is asserted in the list
of inputs (log 6). -/
def Obligations.InterruptRecognition : Prop :=
  ∀ (s : State) (asserted : List SourceName),
    let may (src : IntSource) : Prop :=
      src.name ∈ asserted ∧ (src.maskable = false ∨ s.ccr.i = false)
    (∀ src : IntSource, eligibleSource asserted s = some src →
      may src ∧ ∃ before after, s.platform.sources = before ++ src :: after ∧ ∀ x ∈ before, ¬ may x) ∧
    (eligibleSource asserted s = none ↔ ∀ src ∈ s.platform.sources, ¬ may src) ∧
    (∀ src : IntSource, presented s = { reset := none, asserted := asserted } →
      eligibleSource asserted s = some src → pointerAtEffect s = none →
      step s = guardBus (.next (takeException src.vector (beginStep s))))

/-- R258, R255: interrupt entry out of a running program: the frame is pushed with the old CCR, I is set, PC
is the big-endian word at the vector, and A, B, X, H, N, Z, V, C keep their values. -/
def Obligations.InterruptEntry : Prop :=
  ∀ (s : State) (vec : Word), s.waiting = false → StackInStorage s.platform s.sp 7 →
    MemoryCanonical s →
    let t := takeException vec s
    FrameAt t.mem s.sp s ∧ t.sp = s.sp - 7 ∧
    t.ccr = { s.ccr with i := true } ∧ t.a = s.a ∧ t.b = s.b ∧ t.x = s.x ∧ t.waiting = false ∧
    t.platform = s.platform ∧ t.inputs = s.inputs ∧
    (∀ addr : Word, addr ∉ stackBelow s.sp 7 → t.mem.read addr.toNat = s.mem.read addr.toNat) ∧
    ((kindAt s.platform vec).holdsByte = true → (kindAt s.platform (vec + 1)).holdsByte = true →
      t.pc = join (t.mem.read vec.toNat) (t.mem.read (vec + 1).toNat))

/-- R260, R269: a step in the wait, where PC, X and SP point at no address whose read has a side effect (where
one does, the step is refused: R57, log 11, `RefusedOnlyAtReadEffects`): with no eligible source the machine
stays as it is but for the input used up and the empty record (log 6, log 13); an eligible one ends the wait
without a push, sets I and loads PC from its vector. -/
def Obligations.WaitingStep : Prop :=
  ∀ s : State, s.waiting = true → (presented s).reset = none → pointerAtEffect s = none →
    (eligibleSource (presented s).asserted s = none → step s = .next (beginStep s)) ∧
    (∀ src, eligibleSource (presented s).asserted s = some src →
      hasReadEffect s.platform src.vector = false → hasReadEffect s.platform (src.vector + 1) = false →
      ∃ t, step s = .next t ∧ t.waiting = false ∧ t.ccr = { s.ccr with i := true } ∧ t.sp = s.sp ∧
        t.mem = s.mem ∧ t.a = s.a ∧ t.b = s.b ∧ t.x = s.x ∧
        ((kindAt s.platform src.vector).holdsByte = true →
          (kindAt s.platform (src.vector + 1)).holdsByte = true →
          t.pc = join (s.mem.read src.vector.toNat) (s.mem.read (src.vector + 1).toNat)))

/-- R36, R164, R269: the wait begins only with WAI, and ends only by an eligible interrupt or reset. -/
def Obligations.WaitBeginsWithWaiEndsByEvent : Prop :=
  ∀ s t : State, step s = .next t →
    (s.waiting = false → t.waiting = true →
      RunsInstruction s ∧ ∃ u, fetchInstr (beginStep s) = .ok (.wai, u)) ∧
    (s.waiting = true → t.waiting = false →
      (presented s).reset ≠ none ∨ eligibleSource (presented s).asserted s ≠ none)

/-- R280, R270, R281: a reset, in any state and over every request, asserted at the boundary itself (`k = 0`)
or after the first `k` byte accesses of what the step would have done. Let `es` be the accesses completed: none
at the boundary; the first `k` of those the step without reset makes, where that answers a next state; the
fetch of the opcode, where that faults. Then I is 1, the wait ends, PC is the word at `VEC.reset`, nothing is
pushed, and memory is as it was but for the writes among `es`, so as the step would have left it where all its
accesses have completed. Where the step without reset is refused, so is a reset that cuts it (R57). Of A, B, X,
SP and the other condition bits nothing is said (log 7). That `k` counts the recorded accesses, and the record
itself, are the model's own (log 8, log 13), the refusal is the reading of log 11. -/
def Obligations.ResetAtABoundary : Prop :=
  ∀ (s : State) (k : Nat), (presented s).reset = some k →
    (∀ es : List Access,
      (k = 0 ∧ es = [] ∨
       k ≠ 0 ∧ (∃ u, step (withoutReset s) = .next u ∧ es = u.bus.take k) ∨
       k ≠ 0 ∧ (∃ e, step (withoutReset s) = .fault e) ∧ es = [.read s.pc (readValue s.pc s)]) →
      hasReadEffect s.platform s.platform.vecReset = false →
      hasReadEffect s.platform (s.platform.vecReset + 1) = false →
      ∃ t hi lo, step s = .next t ∧ t.ccr.i = true ∧ t.waiting = false ∧
        t.mem = landed s.platform es s.mem ∧
        t.platform = s.platform ∧ t.inputs = s.inputs.tail ∧ t.pc = join hi lo ∧
        t.bus = es ++ [.read s.platform.vecReset hi, .read (s.platform.vecReset + 1) lo] ∧
        ((kindAt s.platform s.platform.vecReset).holdsByte = true →
          hi = t.mem.read s.platform.vecReset.toNat) ∧
        ((kindAt s.platform (s.platform.vecReset + 1)).holdsByte = true →
          lo = t.mem.read (s.platform.vecReset + 1).toNat)) ∧
    (∀ u : State, step (withoutReset s) = .next u → u.bus.length ≤ k →
      landed s.platform (u.bus.take k) s.mem = u.mem) ∧
    (∀ e : Refusal, k ≠ 0 → step (withoutReset s) = .refused e → step s = .refused e)

/-- R39, R28, R254, R256, R60: the state after reset has I set, does not wait, and holds in PC the word at
`VEC.reset`; CCR bits 7 and 6 read as 1; its memory is in canonical form; its platform is the default one: the
six sources in priority order with their vectors, the vectors of reset and SWI, and storage everywhere. That
A, B, X, SP and H, N, Z, V, C are zero in it is the model's choice (log 1, log 2) and is not stated. The canonical
form (log 3) and the platform as a field of State (log 4) are the model's. -/
def Obligations.StateAfterReset : Prop :=
  State.reset.ccr.i = true ∧ State.reset.waiting = false ∧
  State.reset.pc = (memRead16 State.reset.platform.vecReset State.reset).1 ∧
  (State.reset.ccr.toByte.getLsbD 7 = true ∧ State.reset.ccr.toByte.getLsbD 6 = true) ∧
  MemoryCanonical State.reset ∧
  State.reset.platform.sources.map (fun s => (s.name, s.maskable, s.vector)) =
    [(.nmi, false, 0xFFFC), (.irq1, true, 0xFFF8), (.icf, true, 0xFFF6), (.ocf, true, 0xFFF4),
     (.tof, true, 0xFFF2), (.sci, true, 0xFFF0)] ∧
  State.reset.platform.vecReset = 0xFFFE ∧ State.reset.platform.vecSwi = 0xFFFA ∧
  (∀ a : Word, kindAt State.reset.platform a = .storage)

/-- R30, R282: the interrupt mask, once set, is cleared only by CLI, TAP or RTI, by no other instruction, no
interrupt entry and no reset. -/
def Obligations.OnlyCliTapRtiUnmask : Prop :=
  ∀ s t : State, step s = .next t → s.ccr.i = true → t.ccr.i = false →
    RunsInstruction s ∧
      ∃ i u, fetchInstr (beginStep s) = .ok (i, u) ∧ (i = .cli ∨ i = .tap ∨ i = .rti)

/-- Every step keeps the canonical form of memory: an instruction, an interrupt entry, a reset, also one in
the middle of an instruction (log 8). The canonical form is the model's choice of how the 2^16 bytes of R40 are
held (log 3), not a rule of the spec. That the reset state has it is stated in `StateAfterReset`. -/
def Obligations.StepKeepsMemoryCanonical : Prop :=
  ∀ s t : State, MemoryCanonical s → step s = .next t → MemoryCanonical t

/-- R60, R41, R256: no step changes what a rom address reads as, or any address that is not storage, and none
changes the memory map, the vectors or the sources, which the model holds in State (log 4). -/
def Obligations.StepKeepsRomAndPlatform : Prop :=
  ∀ s t : State, step s = .next t →
    t.platform = s.platform ∧
    (∀ addr : Word, kindAt s.platform addr ≠ .storage → t.mem.read addr.toNat = s.mem.read addr.toNat)

/-- R56, R57: a read-modify-write instruction reads the byte at EA and then writes the same address, with
nothing between; TST reads only. Said of the model's own record of accesses (log 13). -/
def Obligations.ReadModifyWriteAccesses : Prop :=
  ∀ (s : State) (u : UnaryForm) (m : MemMode) (f : UnaryForm → Instr),
    ((∃ off, u = .ind off ∧ m = .ind off) ∨ (∃ addr, u = .ext addr ∧ m = .ext addr)) →
    (f ∈ [negForm, comForm, lsrForm, rorForm, asrForm, aslForm, rolForm, decForm, incForm, clrForm] →
      ∃ (t : State) (v w : Byte), exec (f u) s = .next t ∧
        t.bus = s.bus ++ [.read (ea m s) v, .write (ea m s) w]) ∧
    (∃ (t : State) (v : Byte), exec (tstForm u) s = .next t ∧ t.bus = s.bus ++ [.read (ea m s) v])
end

