-- ==== Sys2Proof/Laws/State.lean ====
section
/-! SUPPORT. What each state-changing operation does to each field of State, one lemma a field, so that no
proof unfolds a record update. -/

namespace Sys2Proof.Machine


/-! ### Accumulators -/

@[simp] theorem State.acc_a (s : State) : s.acc .a = s.a := rfl
@[simp] theorem State.acc_b (s : State) : s.acc .b = s.b := rfl
@[simp] theorem State.setAcc_a_eq (s : State) (v : Byte) : s.setAcc .a v = { s with a := v } := rfl
@[simp] theorem State.setAcc_b_eq (s : State) (v : Byte) : s.setAcc .b v = { s with b := v } := rfl
@[simp] theorem State.setAcc_acc (s : State) (r : Acc) (v : Byte) :
    (s.setAcc r v).acc r = v := by
  cases r <;> rfl
@[simp] theorem State.setAcc_x (s : State) (r : Acc) (v : Byte) :
    (s.setAcc r v).x = s.x := by
  cases r <;> rfl
@[simp] theorem State.setAcc_sp (s : State) (r : Acc) (v : Byte) :
    (s.setAcc r v).sp = s.sp := by
  cases r <;> rfl
@[simp] theorem State.setAcc_pc (s : State) (r : Acc) (v : Byte) :
    (s.setAcc r v).pc = s.pc := by
  cases r <;> rfl
@[simp] theorem State.setAcc_ccr (s : State) (r : Acc) (v : Byte) :
    (s.setAcc r v).ccr = s.ccr := by
  cases r <;> rfl
@[simp] theorem State.setAcc_waiting (s : State) (r : Acc) (v : Byte) :
    (s.setAcc r v).waiting = s.waiting := by
  cases r <;> rfl
@[simp] theorem State.setAcc_mem (s : State) (r : Acc) (v : Byte) :
    (s.setAcc r v).mem = s.mem := by
  cases r <;> rfl
@[simp] theorem State.setAcc_platform (s : State) (r : Acc) (v : Byte) :
    (s.setAcc r v).platform = s.platform := by
  cases r <;> rfl
@[simp] theorem State.setAcc_inputs (s : State) (r : Acc) (v : Byte) :
    (s.setAcc r v).inputs = s.inputs := by
  cases r <;> rfl
@[simp] theorem State.setAcc_bus (s : State) (r : Acc) (v : Byte) :
    (s.setAcc r v).bus = s.bus := by
  cases r <;> rfl
@[simp] theorem State.setAcc_draws (s : State) (r : Acc) (v : Byte) :
    (s.setAcc r v).draws = s.draws := by
  cases r <;> rfl
@[simp] theorem State.setD_a (s : State) (v : Word) : (s.setD v).a = hiByte v := rfl
@[simp] theorem State.setD_b (s : State) (v : Word) : (s.setD v).b = loByte v := rfl
@[simp] theorem State.setD_x (s : State) (v : Word) : (s.setD v).x = s.x := rfl
@[simp] theorem State.setD_sp (s : State) (v : Word) : (s.setD v).sp = s.sp := rfl
@[simp] theorem State.setD_pc (s : State) (v : Word) : (s.setD v).pc = s.pc := rfl
@[simp] theorem State.setD_ccr (s : State) (v : Word) : (s.setD v).ccr = s.ccr := rfl
@[simp] theorem State.setD_waiting (s : State) (v : Word) : (s.setD v).waiting = s.waiting := rfl
@[simp] theorem State.setD_mem (s : State) (v : Word) : (s.setD v).mem = s.mem := rfl
@[simp] theorem State.setD_platform (s : State) (v : Word) : (s.setD v).platform = s.platform := rfl
@[simp] theorem State.setD_inputs (s : State) (v : Word) : (s.setD v).inputs = s.inputs := rfl
@[simp] theorem State.setD_bus (s : State) (v : Word) : (s.setD v).bus = s.bus := rfl
@[simp] theorem State.setD_draws (s : State) (v : Word) : (s.setD v).draws = s.draws := rfl

/-! ### Memory accesses -/

@[simp] theorem memRead8_a (addr : Word) (s : State) : ((memRead8 addr s).2).a = s.a := rfl
@[simp] theorem memRead8_b (addr : Word) (s : State) : ((memRead8 addr s).2).b = s.b := rfl
@[simp] theorem memRead8_x (addr : Word) (s : State) : ((memRead8 addr s).2).x = s.x := rfl
@[simp] theorem memRead8_sp (addr : Word) (s : State) : ((memRead8 addr s).2).sp = s.sp := rfl
@[simp] theorem memRead8_pc (addr : Word) (s : State) : ((memRead8 addr s).2).pc = s.pc := rfl
@[simp] theorem memRead8_ccr (addr : Word) (s : State) : ((memRead8 addr s).2).ccr = s.ccr := rfl
@[simp] theorem memRead8_waiting (addr : Word) (s : State) :
    ((memRead8 addr s).2).waiting = s.waiting := rfl
@[simp] theorem memRead8_mem (addr : Word) (s : State) : ((memRead8 addr s).2).mem = s.mem := rfl
@[simp] theorem memRead8_platform (addr : Word) (s : State) :
    ((memRead8 addr s).2).platform = s.platform := rfl
@[simp] theorem memRead8_inputs (addr : Word) (s : State) :
    ((memRead8 addr s).2).inputs = s.inputs := rfl
@[simp] theorem memRead8_bus (addr : Word) (s : State) :
    ((memRead8 addr s).2).bus = s.bus ++ [.read addr (readValue addr s)] := rfl
@[simp] theorem memRead8_value (addr : Word) (s : State) :
    (memRead8 addr s).1 = readValue addr s := rfl
@[simp] theorem memWrite8_a (addr : Word) (v : Byte) (s : State) :
    (memWrite8 addr v s).a = s.a := rfl
@[simp] theorem memWrite8_b (addr : Word) (v : Byte) (s : State) :
    (memWrite8 addr v s).b = s.b := rfl
@[simp] theorem memWrite8_x (addr : Word) (v : Byte) (s : State) :
    (memWrite8 addr v s).x = s.x := rfl
@[simp] theorem memWrite8_sp (addr : Word) (v : Byte) (s : State) :
    (memWrite8 addr v s).sp = s.sp := rfl
@[simp] theorem memWrite8_pc (addr : Word) (v : Byte) (s : State) :
    (memWrite8 addr v s).pc = s.pc := rfl
@[simp] theorem memWrite8_ccr (addr : Word) (v : Byte) (s : State) :
    (memWrite8 addr v s).ccr = s.ccr := rfl
@[simp] theorem memWrite8_waiting (addr : Word) (v : Byte) (s : State) :
    (memWrite8 addr v s).waiting = s.waiting := rfl
@[simp] theorem memWrite8_platform (addr : Word) (v : Byte) (s : State) :
    (memWrite8 addr v s).platform = s.platform := rfl
@[simp] theorem memWrite8_inputs (addr : Word) (v : Byte) (s : State) :
    (memWrite8 addr v s).inputs = s.inputs := rfl
@[simp] theorem memWrite8_bus (addr : Word) (v : Byte) (s : State) :
    (memWrite8 addr v s).bus = s.bus ++ [.write addr v] := rfl
@[simp] theorem memWrite8_draws (addr : Word) (v : Byte) (s : State) :
    (memWrite8 addr v s).draws = s.draws := rfl
@[simp] theorem memRead16_a (addr : Word) (s : State) :
    ((memRead16 addr s).2).a = s.a := by
  simp [memRead16]
@[simp] theorem memRead16_b (addr : Word) (s : State) :
    ((memRead16 addr s).2).b = s.b := by
  simp [memRead16]
@[simp] theorem memRead16_x (addr : Word) (s : State) :
    ((memRead16 addr s).2).x = s.x := by
  simp [memRead16]
@[simp] theorem memRead16_sp (addr : Word) (s : State) :
    ((memRead16 addr s).2).sp = s.sp := by
  simp [memRead16]
@[simp] theorem memRead16_pc (addr : Word) (s : State) :
    ((memRead16 addr s).2).pc = s.pc := by
  simp [memRead16]
@[simp] theorem memRead16_ccr (addr : Word) (s : State) :
    ((memRead16 addr s).2).ccr = s.ccr := by
  simp [memRead16]
@[simp] theorem memRead16_waiting (addr : Word) (s : State) :
    ((memRead16 addr s).2).waiting = s.waiting := by
  simp [memRead16]
@[simp] theorem memRead16_mem (addr : Word) (s : State) :
    ((memRead16 addr s).2).mem = s.mem := by
  simp [memRead16]
@[simp] theorem memRead16_platform (addr : Word) (s : State) :
    ((memRead16 addr s).2).platform = s.platform := by
  simp [memRead16]
@[simp] theorem memRead16_inputs (addr : Word) (s : State) :
    ((memRead16 addr s).2).inputs = s.inputs := by
  simp [memRead16]
@[simp] theorem memWrite16_a (addr v : Word) (s : State) :
    (memWrite16 addr v s).a = s.a := by
  simp [memWrite16]
@[simp] theorem memWrite16_b (addr v : Word) (s : State) :
    (memWrite16 addr v s).b = s.b := by
  simp [memWrite16]
@[simp] theorem memWrite16_x (addr v : Word) (s : State) :
    (memWrite16 addr v s).x = s.x := by
  simp [memWrite16]
@[simp] theorem memWrite16_sp (addr v : Word) (s : State) :
    (memWrite16 addr v s).sp = s.sp := by
  simp [memWrite16]
@[simp] theorem memWrite16_pc (addr v : Word) (s : State) :
    (memWrite16 addr v s).pc = s.pc := by
  simp [memWrite16]
@[simp] theorem memWrite16_ccr (addr v : Word) (s : State) :
    (memWrite16 addr v s).ccr = s.ccr := by
  simp [memWrite16]
@[simp] theorem memWrite16_waiting (addr v : Word) (s : State) :
    (memWrite16 addr v s).waiting = s.waiting := by
  simp [memWrite16]
@[simp] theorem memWrite16_platform (addr v : Word) (s : State) :
    (memWrite16 addr v s).platform = s.platform := by
  simp [memWrite16]
@[simp] theorem memWrite16_inputs (addr v : Word) (s : State) :
    (memWrite16 addr v s).inputs = s.inputs := by
  simp [memWrite16]
@[simp] theorem memWrite16_draws (addr v : Word) (s : State) :
    (memWrite16 addr v s).draws = s.draws := by
  simp [memWrite16]

/-! ### The stack -/

@[simp] theorem push8_a (v : Byte) (s : State) : (push8 v s).a = s.a := rfl
@[simp] theorem push8_b (v : Byte) (s : State) : (push8 v s).b = s.b := rfl
@[simp] theorem push8_x (v : Byte) (s : State) : (push8 v s).x = s.x := rfl
@[simp] theorem push8_sp (v : Byte) (s : State) : (push8 v s).sp = s.sp - 1 := rfl
@[simp] theorem push8_pc (v : Byte) (s : State) : (push8 v s).pc = s.pc := rfl
@[simp] theorem push8_ccr (v : Byte) (s : State) : (push8 v s).ccr = s.ccr := rfl
@[simp] theorem push8_waiting (v : Byte) (s : State) : (push8 v s).waiting = s.waiting := rfl
@[simp] theorem push8_platform (v : Byte) (s : State) : (push8 v s).platform = s.platform := rfl
@[simp] theorem push8_inputs (v : Byte) (s : State) : (push8 v s).inputs = s.inputs := rfl
@[simp] theorem push8_bus (v : Byte) (s : State) : (push8 v s).bus = s.bus ++ [.write s.sp v] := rfl
@[simp] theorem push8_draws (v : Byte) (s : State) : (push8 v s).draws = s.draws := rfl
@[simp] theorem pull8_a (s : State) : ((pull8 s).2).a = s.a := rfl
@[simp] theorem pull8_b (s : State) : ((pull8 s).2).b = s.b := rfl
@[simp] theorem pull8_x (s : State) : ((pull8 s).2).x = s.x := rfl
@[simp] theorem pull8_sp (s : State) : ((pull8 s).2).sp = s.sp + 1 := rfl
@[simp] theorem pull8_pc (s : State) : ((pull8 s).2).pc = s.pc := rfl
@[simp] theorem pull8_ccr (s : State) : ((pull8 s).2).ccr = s.ccr := rfl
@[simp] theorem pull8_waiting (s : State) : ((pull8 s).2).waiting = s.waiting := rfl
@[simp] theorem pull8_mem (s : State) : ((pull8 s).2).mem = s.mem := rfl
@[simp] theorem pull8_platform (s : State) : ((pull8 s).2).platform = s.platform := rfl
@[simp] theorem pull8_inputs (s : State) : ((pull8 s).2).inputs = s.inputs := rfl
@[simp] theorem push16_a (v : Word) (s : State) : (push16 v s).a = s.a := by
  simp [push16]
@[simp] theorem push16_b (v : Word) (s : State) : (push16 v s).b = s.b := by
  simp [push16]
@[simp] theorem push16_x (v : Word) (s : State) : (push16 v s).x = s.x := by
  simp [push16]
@[simp] theorem push16_sp (v : Word) (s : State) :
    (push16 v s).sp = s.sp - 1 - 1 := by
  simp [push16]
@[simp] theorem push16_pc (v : Word) (s : State) : (push16 v s).pc = s.pc := by
  simp [push16]
@[simp] theorem push16_ccr (v : Word) (s : State) : (push16 v s).ccr = s.ccr := by
  simp [push16]
@[simp] theorem push16_waiting (v : Word) (s : State) :
    (push16 v s).waiting = s.waiting := by
  simp [push16]
@[simp] theorem push16_platform (v : Word) (s : State) :
    (push16 v s).platform = s.platform := by
  simp [push16]
@[simp] theorem push16_inputs (v : Word) (s : State) :
    (push16 v s).inputs = s.inputs := by
  simp [push16]
@[simp] theorem push16_draws (v : Word) (s : State) :
    (push16 v s).draws = s.draws := by
  simp [push16]
@[simp] theorem pull16_a (s : State) : ((pull16 s).2).a = s.a := by
  simp [pull16]
@[simp] theorem pull16_b (s : State) : ((pull16 s).2).b = s.b := by
  simp [pull16]
@[simp] theorem pull16_x (s : State) : ((pull16 s).2).x = s.x := by
  simp [pull16]
@[simp] theorem pull16_sp (s : State) : ((pull16 s).2).sp = s.sp + 1 + 1 := by
  simp [pull16]
@[simp] theorem pull16_pc (s : State) : ((pull16 s).2).pc = s.pc := by
  simp [pull16]
@[simp] theorem pull16_ccr (s : State) : ((pull16 s).2).ccr = s.ccr := by
  simp [pull16]
@[simp] theorem pull16_waiting (s : State) :
    ((pull16 s).2).waiting = s.waiting := by
  simp [pull16]
@[simp] theorem pull16_mem (s : State) : ((pull16 s).2).mem = s.mem := by
  simp [pull16]
@[simp] theorem pull16_platform (s : State) :
    ((pull16 s).2).platform = s.platform := by
  simp [pull16]
@[simp] theorem pull16_inputs (s : State) : ((pull16 s).2).inputs = s.inputs := by
  simp [pull16]
@[simp] theorem stackAll_a (s : State) : (stackAll s).a = s.a := by
  simp [stackAll]
@[simp] theorem stackAll_b (s : State) : (stackAll s).b = s.b := by
  simp [stackAll]
@[simp] theorem stackAll_x (s : State) : (stackAll s).x = s.x := by
  simp [stackAll]
@[simp] theorem stackAll_pc (s : State) : (stackAll s).pc = s.pc := by
  simp [stackAll]
@[simp] theorem stackAll_ccr (s : State) : (stackAll s).ccr = s.ccr := by
  simp [stackAll]
@[simp] theorem stackAll_waiting (s : State) :
    (stackAll s).waiting = s.waiting := by
  simp [stackAll]
@[simp] theorem stackAll_platform (s : State) :
    (stackAll s).platform = s.platform := by
  simp [stackAll]
@[simp] theorem stackAll_inputs (s : State) : (stackAll s).inputs = s.inputs := by
  simp [stackAll]
@[simp] theorem stackAll_draws (s : State) : (stackAll s).draws = s.draws := by
  simp [stackAll]

/-! ### Fetch, operands and the start of a step -/

@[simp] theorem fetch8_a (s : State) : ((fetch8 s).2).a = s.a := rfl
@[simp] theorem fetch8_b (s : State) : ((fetch8 s).2).b = s.b := rfl
@[simp] theorem fetch8_x (s : State) : ((fetch8 s).2).x = s.x := rfl
@[simp] theorem fetch8_sp (s : State) : ((fetch8 s).2).sp = s.sp := rfl
@[simp] theorem fetch8_pc (s : State) : ((fetch8 s).2).pc = s.pc + 1 := rfl
@[simp] theorem fetch8_ccr (s : State) : ((fetch8 s).2).ccr = s.ccr := rfl
@[simp] theorem fetch8_waiting (s : State) : ((fetch8 s).2).waiting = s.waiting := rfl
@[simp] theorem fetch8_mem (s : State) : ((fetch8 s).2).mem = s.mem := rfl
@[simp] theorem fetch8_platform (s : State) : ((fetch8 s).2).platform = s.platform := rfl
@[simp] theorem fetch8_inputs (s : State) : ((fetch8 s).2).inputs = s.inputs := rfl
@[simp] theorem fetch8_bus (s : State) :
    ((fetch8 s).2).bus = s.bus ++ [.read s.pc (readValue s.pc s)] := rfl
@[simp] theorem fetch8_value (s : State) : (fetch8 s).1 = readValue s.pc s := rfl
@[simp] theorem operand8_a (o : Operand8) (s : State) :
    ((operand8 o s).2).a = s.a := by
  cases o <;> rfl
@[simp] theorem operand8_b (o : Operand8) (s : State) :
    ((operand8 o s).2).b = s.b := by
  cases o <;> rfl
@[simp] theorem operand8_x (o : Operand8) (s : State) :
    ((operand8 o s).2).x = s.x := by
  cases o <;> rfl
@[simp] theorem operand8_sp (o : Operand8) (s : State) :
    ((operand8 o s).2).sp = s.sp := by
  cases o <;> rfl
@[simp] theorem operand8_pc (o : Operand8) (s : State) :
    ((operand8 o s).2).pc = s.pc := by
  cases o <;> rfl
@[simp] theorem operand8_ccr (o : Operand8) (s : State) :
    ((operand8 o s).2).ccr = s.ccr := by
  cases o <;> rfl
@[simp] theorem operand8_waiting (o : Operand8) (s : State) :
    ((operand8 o s).2).waiting = s.waiting := by
  cases o <;> rfl
@[simp] theorem operand8_mem (o : Operand8) (s : State) :
    ((operand8 o s).2).mem = s.mem := by
  cases o <;> rfl
@[simp] theorem operand8_platform (o : Operand8) (s : State) :
    ((operand8 o s).2).platform = s.platform := by
  cases o <;> rfl
@[simp] theorem operand8_inputs (o : Operand8) (s : State) :
    ((operand8 o s).2).inputs = s.inputs := by
  cases o <;> rfl
@[simp] theorem operand16_a (o : Operand16) (s : State) :
    ((operand16 o s).2).a = s.a := by
  cases o <;> rfl
@[simp] theorem operand16_b (o : Operand16) (s : State) :
    ((operand16 o s).2).b = s.b := by
  cases o <;> rfl
@[simp] theorem operand16_x (o : Operand16) (s : State) :
    ((operand16 o s).2).x = s.x := by
  cases o <;> rfl
@[simp] theorem operand16_sp (o : Operand16) (s : State) :
    ((operand16 o s).2).sp = s.sp := by
  cases o <;> rfl
@[simp] theorem operand16_pc (o : Operand16) (s : State) :
    ((operand16 o s).2).pc = s.pc := by
  cases o <;> rfl
@[simp] theorem operand16_ccr (o : Operand16) (s : State) :
    ((operand16 o s).2).ccr = s.ccr := by
  cases o <;> rfl
@[simp] theorem operand16_waiting (o : Operand16) (s : State) :
    ((operand16 o s).2).waiting = s.waiting := by
  cases o <;> rfl
@[simp] theorem operand16_mem (o : Operand16) (s : State) :
    ((operand16 o s).2).mem = s.mem := by
  cases o <;> rfl
@[simp] theorem operand16_platform (o : Operand16) (s : State) :
    ((operand16 o s).2).platform = s.platform := by
  cases o <;> rfl
@[simp] theorem operand16_inputs (o : Operand16) (s : State) :
    ((operand16 o s).2).inputs = s.inputs := by
  cases o <;> rfl
@[simp] theorem beginStep_a (s : State) : (beginStep s).a = s.a := rfl
@[simp] theorem beginStep_b (s : State) : (beginStep s).b = s.b := rfl
@[simp] theorem beginStep_x (s : State) : (beginStep s).x = s.x := rfl
@[simp] theorem beginStep_sp (s : State) : (beginStep s).sp = s.sp := rfl
@[simp] theorem beginStep_pc (s : State) : (beginStep s).pc = s.pc := rfl
@[simp] theorem beginStep_ccr (s : State) : (beginStep s).ccr = s.ccr := rfl
@[simp] theorem beginStep_waiting (s : State) : (beginStep s).waiting = s.waiting := rfl
@[simp] theorem beginStep_mem (s : State) : (beginStep s).mem = s.mem := rfl
@[simp] theorem beginStep_platform (s : State) : (beginStep s).platform = s.platform := rfl
@[simp] theorem beginStep_inputs (s : State) : (beginStep s).inputs = s.inputs.tail := rfl
@[simp] theorem beginStep_bus (s : State) : (beginStep s).bus = [] := rfl
@[simp] theorem beginStep_draws (s : State) : (beginStep s).draws = s.draws := rfl
@[simp] theorem enterHandler_a (vector : Word) (s : State) :
    (enterHandler vector s).a = s.a := by
  simp [enterHandler]
@[simp] theorem enterHandler_b (vector : Word) (s : State) :
    (enterHandler vector s).b = s.b := by
  simp [enterHandler]
@[simp] theorem enterHandler_x (vector : Word) (s : State) :
    (enterHandler vector s).x = s.x := by
  simp [enterHandler]
@[simp] theorem enterHandler_sp (vector : Word) (s : State) :
    (enterHandler vector s).sp = s.sp := by
  simp [enterHandler]
@[simp] theorem enterHandler_ccr (vector : Word) (s : State) :
    (enterHandler vector s).ccr = { s.ccr with i := true } := by
  simp [enterHandler]
@[simp] theorem enterHandler_waiting (vector : Word) (s : State) :
    (enterHandler vector s).waiting = s.waiting := by
  simp [enterHandler]
@[simp] theorem enterHandler_mem (vector : Word) (s : State) :
    (enterHandler vector s).mem = s.mem := by
  simp [enterHandler]
@[simp] theorem enterHandler_platform (vector : Word) (s : State) :
    (enterHandler vector s).platform = s.platform := by
  simp [enterHandler]
@[simp] theorem enterHandler_inputs (vector : Word) (s : State) :
    (enterHandler vector s).inputs = s.inputs := by
  simp [enterHandler]
@[simp] theorem resetEvent_waiting (s : State) :
    (resetEvent s).waiting = false := by
  simp [resetEvent]
@[simp] theorem resetEvent_mem (s : State) : (resetEvent s).mem = s.mem := by
  simp [resetEvent]
@[simp] theorem resetEvent_platform (s : State) :
    (resetEvent s).platform = s.platform := by
  simp [resetEvent]
@[simp] theorem resetEvent_inputs (s : State) :
    (resetEvent s).inputs = s.inputs := by
  simp [resetEvent]
@[simp] theorem resetEvent_mask (s : State) : (resetEvent s).ccr.i = true := by
  simp [resetEvent]
@[simp] theorem returnFromException_waiting (s : State) :
    (returnFromException s).waiting = s.waiting := by
  simp [returnFromException]
@[simp] theorem returnFromException_mem (s : State) :
    (returnFromException s).mem = s.mem := by
  simp [returnFromException]
@[simp] theorem returnFromException_platform (s : State) :
    (returnFromException s).platform = s.platform := by
  simp [returnFromException]
@[simp] theorem returnFromException_inputs (s : State) :
    (returnFromException s).inputs = s.inputs := by
  simp [returnFromException]

end Sys2Proof.Machine
end

