-- ==== Sys2Proof/Laws/Alu.lean ====
section
/-! SUPPORT. What each shared operation of Machine/Alu.lean does to each field of State: which fields it
leaves, and for accumulator and flags the value it gives. -/

namespace Sys2Proof.Machine


/-! ### Two 8-bit operands -/

@[simp] theorem accOp_x (op : Byte → Byte → CCR → Byte × CCR) (r : Acc) (o : Operand8) (s : State) :
    (accOp op r o s).x = s.x := by
  simp [accOp]
@[simp] theorem accOp_sp (op : Byte → Byte → CCR → Byte × CCR) (r : Acc) (o : Operand8) (s : State) :
    (accOp op r o s).sp = s.sp := by
  simp [accOp]
@[simp] theorem accOp_pc (op : Byte → Byte → CCR → Byte × CCR) (r : Acc) (o : Operand8) (s : State) :
    (accOp op r o s).pc = s.pc := by
  simp [accOp]
@[simp] theorem accOp_waiting (op : Byte → Byte → CCR → Byte × CCR) (r : Acc) (o : Operand8) (s : State) :
    (accOp op r o s).waiting = s.waiting := by
  simp [accOp]
@[simp] theorem accOp_mem (op : Byte → Byte → CCR → Byte × CCR) (r : Acc) (o : Operand8) (s : State) :
    (accOp op r o s).mem = s.mem := by
  simp [accOp]
@[simp] theorem accOp_platform (op : Byte → Byte → CCR → Byte × CCR) (r : Acc) (o : Operand8) (s : State) :
    (accOp op r o s).platform = s.platform := by
  simp [accOp]
@[simp] theorem accOp_inputs (op : Byte → Byte → CCR → Byte × CCR) (r : Acc) (o : Operand8) (s : State) :
    (accOp op r o s).inputs = s.inputs := by
  simp [accOp]
@[simp] theorem accOp_acc (op : Byte → Byte → CCR → Byte × CCR) (r : Acc) (o : Operand8) (s : State) :
    (accOp op r o s).acc r = (op (s.acc r) (operand8 o s).1 s.ccr).1 := by
  cases r <;> simp [accOp, State.acc]
@[simp] theorem accOp_ccr (op : Byte → Byte → CCR → Byte × CCR) (r : Acc) (o : Operand8) (s : State) :
    (accOp op r o s).ccr = (op (s.acc r) (operand8 o s).1 s.ccr).2 := by
  cases r <;> simp [accOp, State.acc]
@[simp] theorem accOp_b_a (op : Byte → Byte → CCR → Byte × CCR) (o : Operand8) (s : State) :
    (accOp op .b o s).a = s.a := by
  simp [accOp]
@[simp] theorem accOp_a_b (op : Byte → Byte → CCR → Byte × CCR) (o : Operand8) (s : State) :
    (accOp op .a o s).b = s.b := by
  simp [accOp]
@[simp] theorem accTest_a (op : Byte → Byte → CCR → Byte × CCR) (r : Acc) (o : Operand8) (s : State) :
    (accTest op r o s).a = s.a := by
  simp [accTest]
@[simp] theorem accTest_b (op : Byte → Byte → CCR → Byte × CCR) (r : Acc) (o : Operand8) (s : State) :
    (accTest op r o s).b = s.b := by
  simp [accTest]
@[simp] theorem accTest_x (op : Byte → Byte → CCR → Byte × CCR) (r : Acc) (o : Operand8) (s : State) :
    (accTest op r o s).x = s.x := by
  simp [accTest]
@[simp] theorem accTest_sp (op : Byte → Byte → CCR → Byte × CCR) (r : Acc) (o : Operand8) (s : State) :
    (accTest op r o s).sp = s.sp := by
  simp [accTest]
@[simp] theorem accTest_pc (op : Byte → Byte → CCR → Byte × CCR) (r : Acc) (o : Operand8) (s : State) :
    (accTest op r o s).pc = s.pc := by
  simp [accTest]
@[simp] theorem accTest_waiting (op : Byte → Byte → CCR → Byte × CCR) (r : Acc) (o : Operand8) (s : State) :
    (accTest op r o s).waiting = s.waiting := by
  simp [accTest]
@[simp] theorem accTest_mem (op : Byte → Byte → CCR → Byte × CCR) (r : Acc) (o : Operand8) (s : State) :
    (accTest op r o s).mem = s.mem := by
  simp [accTest]
@[simp] theorem accTest_platform (op : Byte → Byte → CCR → Byte × CCR) (r : Acc) (o : Operand8) (s : State) :
    (accTest op r o s).platform = s.platform := by
  simp [accTest]
@[simp] theorem accTest_inputs (op : Byte → Byte → CCR → Byte × CCR) (r : Acc) (o : Operand8) (s : State) :
    (accTest op r o s).inputs = s.inputs := by
  simp [accTest]
@[simp] theorem accTest_ccr (op : Byte → Byte → CCR → Byte × CCR) (r : Acc) (o : Operand8) (s : State) :
    (accTest op r o s).ccr = (op (s.acc r) (operand8 o s).1 s.ccr).2 := by
  cases r <;> simp [accTest, State.acc]

/-! ### One 8-bit operand -/

@[simp] theorem unaryAcc_x (op : Byte → CCR → Byte × CCR) (r : Acc) (s : State) :
    (unaryAcc op r s).x = s.x := by
  simp [unaryAcc]
@[simp] theorem unaryAcc_sp (op : Byte → CCR → Byte × CCR) (r : Acc) (s : State) :
    (unaryAcc op r s).sp = s.sp := by
  simp [unaryAcc]
@[simp] theorem unaryAcc_pc (op : Byte → CCR → Byte × CCR) (r : Acc) (s : State) :
    (unaryAcc op r s).pc = s.pc := by
  simp [unaryAcc]
@[simp] theorem unaryAcc_waiting (op : Byte → CCR → Byte × CCR) (r : Acc) (s : State) :
    (unaryAcc op r s).waiting = s.waiting := by
  simp [unaryAcc]
@[simp] theorem unaryAcc_mem (op : Byte → CCR → Byte × CCR) (r : Acc) (s : State) :
    (unaryAcc op r s).mem = s.mem := by
  simp [unaryAcc]
@[simp] theorem unaryAcc_platform (op : Byte → CCR → Byte × CCR) (r : Acc) (s : State) :
    (unaryAcc op r s).platform = s.platform := by
  simp [unaryAcc]
@[simp] theorem unaryAcc_inputs (op : Byte → CCR → Byte × CCR) (r : Acc) (s : State) :
    (unaryAcc op r s).inputs = s.inputs := by
  simp [unaryAcc]
@[simp] theorem unaryAcc_bus (op : Byte → CCR → Byte × CCR) (r : Acc) (s : State) :
    (unaryAcc op r s).bus = s.bus := by
  simp [unaryAcc]
@[simp] theorem unaryAcc_draws (op : Byte → CCR → Byte × CCR) (r : Acc) (s : State) :
    (unaryAcc op r s).draws = s.draws := by
  simp [unaryAcc]
@[simp] theorem unaryAcc_acc (op : Byte → CCR → Byte × CCR) (r : Acc) (s : State) :
    (unaryAcc op r s).acc r = (op (s.acc r) s.ccr).1 := by
  cases r <;> simp [unaryAcc, State.acc]
@[simp] theorem unaryAcc_ccr (op : Byte → CCR → Byte × CCR) (r : Acc) (s : State) :
    (unaryAcc op r s).ccr = (op (s.acc r) s.ccr).2 := by
  simp [unaryAcc]
@[simp] theorem unaryAcc_b_a (op : Byte → CCR → Byte × CCR) (s : State) :
    (unaryAcc op .b s).a = s.a := by
  simp [unaryAcc]
@[simp] theorem unaryAcc_a_b (op : Byte → CCR → Byte × CCR) (s : State) :
    (unaryAcc op .a s).b = s.b := by
  simp [unaryAcc]
@[simp] theorem unaryMem_a (op : Byte → CCR → Byte × CCR) (m : MemMode) (s : State) :
    (unaryMem op m s).a = s.a := by
  simp [unaryMem]
@[simp] theorem unaryMem_b (op : Byte → CCR → Byte × CCR) (m : MemMode) (s : State) :
    (unaryMem op m s).b = s.b := by
  simp [unaryMem]
@[simp] theorem unaryMem_x (op : Byte → CCR → Byte × CCR) (m : MemMode) (s : State) :
    (unaryMem op m s).x = s.x := by
  simp [unaryMem]
@[simp] theorem unaryMem_sp (op : Byte → CCR → Byte × CCR) (m : MemMode) (s : State) :
    (unaryMem op m s).sp = s.sp := by
  simp [unaryMem]
@[simp] theorem unaryMem_pc (op : Byte → CCR → Byte × CCR) (m : MemMode) (s : State) :
    (unaryMem op m s).pc = s.pc := by
  simp [unaryMem]
@[simp] theorem unaryMem_waiting (op : Byte → CCR → Byte × CCR) (m : MemMode) (s : State) :
    (unaryMem op m s).waiting = s.waiting := by
  simp [unaryMem]
@[simp] theorem unaryMem_platform (op : Byte → CCR → Byte × CCR) (m : MemMode) (s : State) :
    (unaryMem op m s).platform = s.platform := by
  simp [unaryMem]
@[simp] theorem unaryMem_inputs (op : Byte → CCR → Byte × CCR) (m : MemMode) (s : State) :
    (unaryMem op m s).inputs = s.inputs := by
  simp [unaryMem]
@[simp] theorem unaryMem_mem (op : Byte → CCR → Byte × CCR) (m : MemMode) (s : State) :
    (unaryMem op m s).mem = (memWrite8 (ea m s) (op (readValue (ea m s) s) s.ccr).1 s).mem := rfl
@[simp] theorem unaryMem_ccr (op : Byte → CCR → Byte × CCR) (m : MemMode) (s : State) :
    (unaryMem op m s).ccr = (op (readValue (ea m s) s) s.ccr).2 := by
  simp [unaryMem]
@[simp] theorem testAcc_a (op : Byte → CCR → Byte × CCR) (r : Acc) (s : State) :
    (testAcc op r s).a = s.a := rfl
@[simp] theorem testAcc_b (op : Byte → CCR → Byte × CCR) (r : Acc) (s : State) :
    (testAcc op r s).b = s.b := rfl
@[simp] theorem testAcc_x (op : Byte → CCR → Byte × CCR) (r : Acc) (s : State) :
    (testAcc op r s).x = s.x := rfl
@[simp] theorem testAcc_sp (op : Byte → CCR → Byte × CCR) (r : Acc) (s : State) :
    (testAcc op r s).sp = s.sp := rfl
@[simp] theorem testAcc_pc (op : Byte → CCR → Byte × CCR) (r : Acc) (s : State) :
    (testAcc op r s).pc = s.pc := rfl
@[simp] theorem testAcc_waiting (op : Byte → CCR → Byte × CCR) (r : Acc) (s : State) :
    (testAcc op r s).waiting = s.waiting := rfl
@[simp] theorem testAcc_mem (op : Byte → CCR → Byte × CCR) (r : Acc) (s : State) :
    (testAcc op r s).mem = s.mem := rfl
@[simp] theorem testAcc_platform (op : Byte → CCR → Byte × CCR) (r : Acc) (s : State) :
    (testAcc op r s).platform = s.platform := rfl
@[simp] theorem testAcc_inputs (op : Byte → CCR → Byte × CCR) (r : Acc) (s : State) :
    (testAcc op r s).inputs = s.inputs := rfl
@[simp] theorem testAcc_bus (op : Byte → CCR → Byte × CCR) (r : Acc) (s : State) :
    (testAcc op r s).bus = s.bus := rfl
@[simp] theorem testAcc_draws (op : Byte → CCR → Byte × CCR) (r : Acc) (s : State) :
    (testAcc op r s).draws = s.draws := rfl
@[simp] theorem testAcc_ccr (op : Byte → CCR → Byte × CCR) (r : Acc) (s : State) :
    (testAcc op r s).ccr = (op (s.acc r) s.ccr).2 := rfl
@[simp] theorem testMem_a (op : Byte → CCR → Byte × CCR) (m : MemMode) (s : State) :
    (testMem op m s).a = s.a := by
  simp [testMem]
@[simp] theorem testMem_b (op : Byte → CCR → Byte × CCR) (m : MemMode) (s : State) :
    (testMem op m s).b = s.b := by
  simp [testMem]
@[simp] theorem testMem_x (op : Byte → CCR → Byte × CCR) (m : MemMode) (s : State) :
    (testMem op m s).x = s.x := by
  simp [testMem]
@[simp] theorem testMem_sp (op : Byte → CCR → Byte × CCR) (m : MemMode) (s : State) :
    (testMem op m s).sp = s.sp := by
  simp [testMem]
@[simp] theorem testMem_pc (op : Byte → CCR → Byte × CCR) (m : MemMode) (s : State) :
    (testMem op m s).pc = s.pc := by
  simp [testMem]
@[simp] theorem testMem_waiting (op : Byte → CCR → Byte × CCR) (m : MemMode) (s : State) :
    (testMem op m s).waiting = s.waiting := by
  simp [testMem]
@[simp] theorem testMem_mem (op : Byte → CCR → Byte × CCR) (m : MemMode) (s : State) :
    (testMem op m s).mem = s.mem := by
  simp [testMem]
@[simp] theorem testMem_platform (op : Byte → CCR → Byte × CCR) (m : MemMode) (s : State) :
    (testMem op m s).platform = s.platform := by
  simp [testMem]
@[simp] theorem testMem_inputs (op : Byte → CCR → Byte × CCR) (m : MemMode) (s : State) :
    (testMem op m s).inputs = s.inputs := by
  simp [testMem]
@[simp] theorem testMem_ccr (op : Byte → CCR → Byte × CCR) (m : MemMode) (s : State) :
    (testMem op m s).ccr = (op (readValue (ea m s) s) s.ccr).2 := by
  simp [testMem]

/-! ### Stores, branches and calls -/

@[simp] theorem store8_a (v : Byte) (m : MemMode) (s : State) :
    (store8 v m s).a = s.a := by
  simp [store8]
@[simp] theorem store8_b (v : Byte) (m : MemMode) (s : State) :
    (store8 v m s).b = s.b := by
  simp [store8]
@[simp] theorem store8_x (v : Byte) (m : MemMode) (s : State) :
    (store8 v m s).x = s.x := by
  simp [store8]
@[simp] theorem store8_sp (v : Byte) (m : MemMode) (s : State) :
    (store8 v m s).sp = s.sp := by
  simp [store8]
@[simp] theorem store8_pc (v : Byte) (m : MemMode) (s : State) :
    (store8 v m s).pc = s.pc := by
  simp [store8]
@[simp] theorem store8_ccr (v : Byte) (m : MemMode) (s : State) :
    (store8 v m s).ccr = s.ccr.withNZ v := by
  simp [store8]
@[simp] theorem store8_waiting (v : Byte) (m : MemMode) (s : State) :
    (store8 v m s).waiting = s.waiting := by
  simp [store8]
@[simp] theorem store8_platform (v : Byte) (m : MemMode) (s : State) :
    (store8 v m s).platform = s.platform := by
  simp [store8]
@[simp] theorem store8_inputs (v : Byte) (m : MemMode) (s : State) :
    (store8 v m s).inputs = s.inputs := by
  simp [store8]
@[simp] theorem store8_draws (v : Byte) (m : MemMode) (s : State) :
    (store8 v m s).draws = s.draws := by
  simp [store8]
@[simp] theorem store8_mem (v : Byte) (m : MemMode) (s : State) :
    (store8 v m s).mem = (memWrite8 (ea m s) v s).mem := by
  simp [store8]
@[simp] theorem store16_a (v : Word) (m : MemMode) (s : State) :
    (store16 v m s).a = s.a := by
  simp [store16]
@[simp] theorem store16_b (v : Word) (m : MemMode) (s : State) :
    (store16 v m s).b = s.b := by
  simp [store16]
@[simp] theorem store16_x (v : Word) (m : MemMode) (s : State) :
    (store16 v m s).x = s.x := by
  simp [store16]
@[simp] theorem store16_sp (v : Word) (m : MemMode) (s : State) :
    (store16 v m s).sp = s.sp := by
  simp [store16]
@[simp] theorem store16_pc (v : Word) (m : MemMode) (s : State) :
    (store16 v m s).pc = s.pc := by
  simp [store16]
@[simp] theorem store16_ccr (v : Word) (m : MemMode) (s : State) :
    (store16 v m s).ccr = s.ccr.withNZ v := by
  simp [store16]
@[simp] theorem store16_waiting (v : Word) (m : MemMode) (s : State) :
    (store16 v m s).waiting = s.waiting := by
  simp [store16]
@[simp] theorem store16_platform (v : Word) (m : MemMode) (s : State) :
    (store16 v m s).platform = s.platform := by
  simp [store16]
@[simp] theorem store16_inputs (v : Word) (m : MemMode) (s : State) :
    (store16 v m s).inputs = s.inputs := by
  simp [store16]
@[simp] theorem store16_draws (v : Word) (m : MemMode) (s : State) :
    (store16 v m s).draws = s.draws := by
  simp [store16]
@[simp] theorem store16_mem (v : Word) (m : MemMode) (s : State) :
    (store16 v m s).mem = (memWrite16 (ea m s) v s).mem := by
  simp [store16]
@[simp] theorem branchIf_a (cond : Bool) (rel : Byte) (s : State) :
    (branchIf cond rel s).a = s.a := rfl
@[simp] theorem branchIf_b (cond : Bool) (rel : Byte) (s : State) :
    (branchIf cond rel s).b = s.b := rfl
@[simp] theorem branchIf_x (cond : Bool) (rel : Byte) (s : State) :
    (branchIf cond rel s).x = s.x := rfl
@[simp] theorem branchIf_sp (cond : Bool) (rel : Byte) (s : State) :
    (branchIf cond rel s).sp = s.sp := rfl
@[simp] theorem branchIf_pc (cond : Bool) (rel : Byte) (s : State) :
    (branchIf cond rel s).pc = if cond then relTarget rel s else s.pc := rfl
@[simp] theorem branchIf_ccr (cond : Bool) (rel : Byte) (s : State) :
    (branchIf cond rel s).ccr = s.ccr := rfl
@[simp] theorem branchIf_waiting (cond : Bool) (rel : Byte) (s : State) :
    (branchIf cond rel s).waiting = s.waiting := rfl
@[simp] theorem branchIf_mem (cond : Bool) (rel : Byte) (s : State) :
    (branchIf cond rel s).mem = s.mem := rfl
@[simp] theorem branchIf_platform (cond : Bool) (rel : Byte) (s : State) :
    (branchIf cond rel s).platform = s.platform := rfl
@[simp] theorem branchIf_inputs (cond : Bool) (rel : Byte) (s : State) :
    (branchIf cond rel s).inputs = s.inputs := rfl
@[simp] theorem branchIf_bus (cond : Bool) (rel : Byte) (s : State) :
    (branchIf cond rel s).bus = s.bus := rfl
@[simp] theorem branchIf_draws (cond : Bool) (rel : Byte) (s : State) :
    (branchIf cond rel s).draws = s.draws := rfl
@[simp] theorem callTo_a (target : Word) (s : State) :
    (callTo target s).a = s.a := by
  simp [callTo]
@[simp] theorem callTo_b (target : Word) (s : State) :
    (callTo target s).b = s.b := by
  simp [callTo]
@[simp] theorem callTo_x (target : Word) (s : State) :
    (callTo target s).x = s.x := by
  simp [callTo]
@[simp] theorem callTo_sp (target : Word) (s : State) :
    (callTo target s).sp = s.sp - 1 - 1 := by
  simp [callTo]
@[simp] theorem callTo_pc (target : Word) (s : State) :
    (callTo target s).pc = target := by
  simp [callTo]
@[simp] theorem callTo_ccr (target : Word) (s : State) :
    (callTo target s).ccr = s.ccr := by
  simp [callTo]
@[simp] theorem callTo_waiting (target : Word) (s : State) :
    (callTo target s).waiting = s.waiting := by
  simp [callTo]
@[simp] theorem callTo_platform (target : Word) (s : State) :
    (callTo target s).platform = s.platform := by
  simp [callTo]
@[simp] theorem callTo_inputs (target : Word) (s : State) :
    (callTo target s).inputs = s.inputs := by
  simp [callTo]
@[simp] theorem callTo_draws (target : Word) (s : State) :
    (callTo target s).draws = s.draws := by
  simp [callTo]
@[simp] theorem callTo_mem (target : Word) (s : State) :
    (callTo target s).mem = (push16 s.pc s).mem := by
  simp [callTo]

/-! ### 16-bit registers -/

@[simp] theorem subD_x (o : Operand16) (s : State) : (subD o s).x = s.x := by
  simp [subD]
@[simp] theorem subD_sp (o : Operand16) (s : State) : (subD o s).sp = s.sp := by
  simp [subD]
@[simp] theorem subD_pc (o : Operand16) (s : State) : (subD o s).pc = s.pc := by
  simp [subD]
@[simp] theorem subD_waiting (o : Operand16) (s : State) :
    (subD o s).waiting = s.waiting := by
  simp [subD]
@[simp] theorem subD_mem (o : Operand16) (s : State) : (subD o s).mem = s.mem := by
  simp [subD]
@[simp] theorem subD_platform (o : Operand16) (s : State) :
    (subD o s).platform = s.platform := by
  simp [subD]
@[simp] theorem subD_inputs (o : Operand16) (s : State) :
    (subD o s).inputs = s.inputs := by
  simp [subD]
@[simp] theorem addD_x (o : Operand16) (s : State) : (addD o s).x = s.x := by
  simp [addD]
@[simp] theorem addD_sp (o : Operand16) (s : State) : (addD o s).sp = s.sp := by
  simp [addD]
@[simp] theorem addD_pc (o : Operand16) (s : State) : (addD o s).pc = s.pc := by
  simp [addD]
@[simp] theorem addD_waiting (o : Operand16) (s : State) :
    (addD o s).waiting = s.waiting := by
  simp [addD]
@[simp] theorem addD_mem (o : Operand16) (s : State) : (addD o s).mem = s.mem := by
  simp [addD]
@[simp] theorem addD_platform (o : Operand16) (s : State) :
    (addD o s).platform = s.platform := by
  simp [addD]
@[simp] theorem addD_inputs (o : Operand16) (s : State) :
    (addD o s).inputs = s.inputs := by
  simp [addD]
@[simp] theorem compareX_a (o : Operand16) (s : State) :
    (compareX o s).a = s.a := by
  simp [compareX]
@[simp] theorem compareX_b (o : Operand16) (s : State) :
    (compareX o s).b = s.b := by
  simp [compareX]
@[simp] theorem compareX_x (o : Operand16) (s : State) :
    (compareX o s).x = s.x := by
  simp [compareX]
@[simp] theorem compareX_sp (o : Operand16) (s : State) :
    (compareX o s).sp = s.sp := by
  simp [compareX]
@[simp] theorem compareX_pc (o : Operand16) (s : State) :
    (compareX o s).pc = s.pc := by
  simp [compareX]
@[simp] theorem compareX_waiting (o : Operand16) (s : State) :
    (compareX o s).waiting = s.waiting := by
  simp [compareX]
@[simp] theorem compareX_mem (o : Operand16) (s : State) :
    (compareX o s).mem = s.mem := by
  simp [compareX]
@[simp] theorem compareX_platform (o : Operand16) (s : State) :
    (compareX o s).platform = s.platform := by
  simp [compareX]
@[simp] theorem compareX_inputs (o : Operand16) (s : State) :
    (compareX o s).inputs = s.inputs := by
  simp [compareX]
@[simp] theorem loadD_x (o : Operand16) (s : State) : (loadD o s).x = s.x := by
  simp [loadD]
@[simp] theorem loadD_sp (o : Operand16) (s : State) : (loadD o s).sp = s.sp := by
  simp [loadD]
@[simp] theorem loadD_pc (o : Operand16) (s : State) : (loadD o s).pc = s.pc := by
  simp [loadD]
@[simp] theorem loadD_waiting (o : Operand16) (s : State) :
    (loadD o s).waiting = s.waiting := by
  simp [loadD]
@[simp] theorem loadD_mem (o : Operand16) (s : State) : (loadD o s).mem = s.mem := by
  simp [loadD]
@[simp] theorem loadD_platform (o : Operand16) (s : State) :
    (loadD o s).platform = s.platform := by
  simp [loadD]
@[simp] theorem loadD_inputs (o : Operand16) (s : State) :
    (loadD o s).inputs = s.inputs := by
  simp [loadD]
@[simp] theorem loadX_a (o : Operand16) (s : State) : (loadX o s).a = s.a := by
  simp [loadX]
@[simp] theorem loadX_b (o : Operand16) (s : State) : (loadX o s).b = s.b := by
  simp [loadX]
@[simp] theorem loadX_sp (o : Operand16) (s : State) : (loadX o s).sp = s.sp := by
  simp [loadX]
@[simp] theorem loadX_pc (o : Operand16) (s : State) : (loadX o s).pc = s.pc := by
  simp [loadX]
@[simp] theorem loadX_waiting (o : Operand16) (s : State) :
    (loadX o s).waiting = s.waiting := by
  simp [loadX]
@[simp] theorem loadX_mem (o : Operand16) (s : State) : (loadX o s).mem = s.mem := by
  simp [loadX]
@[simp] theorem loadX_platform (o : Operand16) (s : State) :
    (loadX o s).platform = s.platform := by
  simp [loadX]
@[simp] theorem loadX_inputs (o : Operand16) (s : State) :
    (loadX o s).inputs = s.inputs := by
  simp [loadX]
@[simp] theorem loadSP_a (o : Operand16) (s : State) : (loadSP o s).a = s.a := by
  simp [loadSP]
@[simp] theorem loadSP_b (o : Operand16) (s : State) : (loadSP o s).b = s.b := by
  simp [loadSP]
@[simp] theorem loadSP_x (o : Operand16) (s : State) : (loadSP o s).x = s.x := by
  simp [loadSP]
@[simp] theorem loadSP_pc (o : Operand16) (s : State) : (loadSP o s).pc = s.pc := by
  simp [loadSP]
@[simp] theorem loadSP_waiting (o : Operand16) (s : State) :
    (loadSP o s).waiting = s.waiting := by
  simp [loadSP]
@[simp] theorem loadSP_mem (o : Operand16) (s : State) :
    (loadSP o s).mem = s.mem := by
  simp [loadSP]
@[simp] theorem loadSP_platform (o : Operand16) (s : State) :
    (loadSP o s).platform = s.platform := by
  simp [loadSP]
@[simp] theorem loadSP_inputs (o : Operand16) (s : State) :
    (loadSP o s).inputs = s.inputs := by
  simp [loadSP]
@[simp] theorem subD_ccr (o : Operand16) (s : State) :
    (subD o s).ccr = s.ccr.withNZVC (sub16 s.d (operand16 o s).1) := by
  simp [subD, State.d]
@[simp] theorem addD_ccr (o : Operand16) (s : State) :
    (addD o s).ccr = s.ccr.withNZVC (add16 s.d (operand16 o s).1) := by
  simp [addD, State.d]
@[simp] theorem compareX_ccr (o : Operand16) (s : State) :
    (compareX o s).ccr = s.ccr.withNZVC (sub16 s.x (operand16 o s).1) := by
  simp [compareX]
@[simp] theorem loadD_ccr (o : Operand16) (s : State) :
    (loadD o s).ccr = s.ccr.withNZ (operand16 o s).1 := by
  simp [loadD]
@[simp] theorem loadX_ccr (o : Operand16) (s : State) :
    (loadX o s).ccr = s.ccr.withNZ (operand16 o s).1 := by
  simp [loadX]
@[simp] theorem loadSP_ccr (o : Operand16) (s : State) :
    (loadSP o s).ccr = s.ccr.withNZ (operand16 o s).1 := by
  simp [loadSP]
@[simp] theorem loadX_x (o : Operand16) (s : State) :
    (loadX o s).x = (operand16 o s).1 := by
  simp [loadX]
@[simp] theorem loadSP_sp (o : Operand16) (s : State) :
    (loadSP o s).sp = (operand16 o s).1 := by
  simp [loadSP]
@[simp] theorem shiftRightD_x (s : State) : (shiftRightD s).x = s.x := rfl
@[simp] theorem shiftRightD_sp (s : State) : (shiftRightD s).sp = s.sp := rfl
@[simp] theorem shiftRightD_pc (s : State) : (shiftRightD s).pc = s.pc := rfl
@[simp] theorem shiftRightD_waiting (s : State) : (shiftRightD s).waiting = s.waiting := rfl
@[simp] theorem shiftRightD_mem (s : State) : (shiftRightD s).mem = s.mem := rfl
@[simp] theorem shiftRightD_platform (s : State) : (shiftRightD s).platform = s.platform := rfl
@[simp] theorem shiftRightD_inputs (s : State) : (shiftRightD s).inputs = s.inputs := rfl
@[simp] theorem shiftRightD_bus (s : State) : (shiftRightD s).bus = s.bus := rfl
@[simp] theorem shiftRightD_draws (s : State) : (shiftRightD s).draws = s.draws := rfl
@[simp] theorem shiftLeftD_x (s : State) : (shiftLeftD s).x = s.x := rfl
@[simp] theorem shiftLeftD_sp (s : State) : (shiftLeftD s).sp = s.sp := rfl
@[simp] theorem shiftLeftD_pc (s : State) : (shiftLeftD s).pc = s.pc := rfl
@[simp] theorem shiftLeftD_waiting (s : State) : (shiftLeftD s).waiting = s.waiting := rfl
@[simp] theorem shiftLeftD_mem (s : State) : (shiftLeftD s).mem = s.mem := rfl
@[simp] theorem shiftLeftD_platform (s : State) : (shiftLeftD s).platform = s.platform := rfl
@[simp] theorem shiftLeftD_inputs (s : State) : (shiftLeftD s).inputs = s.inputs := rfl
@[simp] theorem shiftLeftD_bus (s : State) : (shiftLeftD s).bus = s.bus := rfl
@[simp] theorem shiftLeftD_draws (s : State) : (shiftLeftD s).draws = s.draws := rfl
@[simp] theorem multiply_x (s : State) : (multiply s).x = s.x := rfl
@[simp] theorem multiply_sp (s : State) : (multiply s).sp = s.sp := rfl
@[simp] theorem multiply_pc (s : State) : (multiply s).pc = s.pc := rfl
@[simp] theorem multiply_waiting (s : State) : (multiply s).waiting = s.waiting := rfl
@[simp] theorem multiply_mem (s : State) : (multiply s).mem = s.mem := rfl
@[simp] theorem multiply_platform (s : State) : (multiply s).platform = s.platform := rfl
@[simp] theorem multiply_inputs (s : State) : (multiply s).inputs = s.inputs := rfl
@[simp] theorem multiply_bus (s : State) : (multiply s).bus = s.bus := rfl
@[simp] theorem multiply_draws (s : State) : (multiply s).draws = s.draws := rfl

end Sys2Proof.Machine
end

