-- ==== Sys2Proof/Laws/Decode.lean ====
section
/-! SUPPORT. The decoder, by its first byte: what it can answer, and byte order of the operand. -/

namespace Sys2Proof

/-- Two bytes joined and taken apart. -/
@[simp] theorem hiByte_join (h l : Byte) : hiByte (join h l) = h := by
  apply BitVec.eq_of_getLsbD_eq
  intro i hi
  have h1 : ¬ 8 + i < 8 := by omega
  have h2 : 8 + i - 8 = i := by omega
  simp only [hiByte, join, BitVec.getLsbD_extractLsb', BitVec.getLsbD_append, hi, h1, h2,
    decide_true, Bool.true_and, if_false]

@[simp] theorem loByte_join (h l : Byte) : loByte (join h l) = l := by
  apply BitVec.eq_of_getLsbD_eq
  intro i hi
  simp only [loByte, join, BitVec.getLsbD_extractLsb', BitVec.getLsbD_append, hi, Nat.zero_add,
    decide_true, Bool.true_and, if_true]

/-- A word is its two bytes joined. -/
@[simp] theorem join_hiByte_loByte (w : Word) : join (hiByte w) (loByte w) = w := by
  apply BitVec.eq_of_getLsbD_eq
  intro i hi
  simp only [join, hiByte, loByte, BitVec.getLsbD_append, BitVec.getLsbD_extractLsb']
  by_cases h : i < 8
  · simp [h]
  · simp only [h, if_false]
    have h1 : i - 8 < 8 := by omega
    have h2 : 8 + (i - 8) = i := by omega
    simp [h1, h2]

/-- A first byte with no row is refused by name, whatever follows. -/
theorem decode_unassigned {op : Byte} (h : opcodeRow op = none) (rest : List Byte) :
    decode (op :: rest) = .error (.unassigned op) := by
  simp [decode, h]

/-- A first byte with a row is decoded by the form of that row. -/
theorem decode_assigned {op : Byte} {row : OpRow} (h : opcodeRow op = some row) (rest : List Byte) :
    decode (op :: rest) =
      (match takeOperands row.form rest with
       | none => .error (.truncated op)
       | some r => .ok r) := by
  cases hr : takeOperands row.form rest <;> simp only [decode, h, hr]

/-- The form of a row takes exactly the bytes it asks for. -/
theorem takeOperands_of_length {f : Form} {bs : List Byte} (h : bs.length = formLength f - 1) :
    ∃ i, takeOperands f bs = some (i, []) := by
  cases f with
  | none i =>
    cases bs with
    | nil => exact ⟨i, rfl⟩
    | cons b rest => simp [formLength] at h
  | byte g =>
    match bs, h with
    | [b], _ => exact ⟨g b, rfl⟩
  | word g =>
    match bs, h with
    | [b1, b2], _ => exact ⟨g (join b1 b2), rfl⟩

/-- What decodes has a row, and its operands are taken by that row's form. -/
theorem decode_ok {bs left : List Byte} {i : Instr} (h : decode bs = .ok (i, left)) :
    ∃ op rest row, bs = op :: rest ∧ opcodeRow op = some row ∧
      takeOperands row.form rest = some (i, left) := by
  cases bs with
  | nil => simp [decode] at h
  | cons op rest =>
    cases hrow : opcodeRow op with
    | none => simp [decode_unassigned hrow] at h
    | some row =>
      rw [decode_assigned hrow] at h
      cases ht : takeOperands row.form rest with
      | none => simp [ht] at h
      | some r =>
        rw [ht] at h
        exact ⟨op, rest, row, rfl, hrow, by simpa [ht] using h⟩

/-- What decodes with nothing left over has as many bytes as its row says. -/
theorem length_of_takeOperands {f : Form} {bs : List Byte} {i : Instr}
    (h : takeOperands f bs = some (i, [])) : bs.length = formLength f - 1 := by
  cases f with
  | none j =>
    simp only [takeOperands, Option.some.injEq, Prod.mk.injEq] at h
    simp [h.2, formLength]
  | byte g =>
    match bs, h with
    | [], h => simp [takeOperands] at h
    | [_], _ => rfl
    | _ :: _ :: _, h => simp [takeOperands] at h
  | word g =>
    match bs, h with
    | [], h => simp [takeOperands] at h
    | [_], h => simp [takeOperands] at h
    | [_, _], _ => rfl
    | _ :: _ :: _ :: _, h => simp [takeOperands] at h

end Sys2Proof
end

