-- ==== Sys2Proof/Laws/Memory.lean ====
section
/-! SUPPORT. Memory: read after write, the canonical form, and that every memory operation keeps it. -/

namespace Sys2Proof.Machine

/-! ### The list -/

@[simp] theorem Memory.read_nil (a : Nat) : Memory.read [] a = memDefault := rfl

/-- In canonical form from `lo` on, nothing is listed below `lo`. -/
theorem Memory.read_below {m : Memory} {lo a : Nat} (h : m.wfFrom lo = true) (ha : a < lo) :
    m.read a = memDefault := by
  induction m generalizing lo with
  | nil => rfl
  | cons e rest ih =>
    obtain ⟨k, u⟩ := e
    simp only [Memory.wfFrom, Bool.and_eq_true, decide_eq_true_eq] at h
    obtain ⟨⟨⟨hlo, -⟩, -⟩, hrest⟩ := h
    rw [Memory.read, if_neg (by omega)]
    exact ih hrest (by omega)

/-- A canonical form from `lo` on is one from anything lower on. -/
theorem Memory.wfFrom_mono {m : Memory} {lo lo' : Nat} (h : m.wfFrom lo = true) (hl : lo' ≤ lo) :
    m.wfFrom lo' = true := by
  cases m with
  | nil => rfl
  | cons e rest =>
    obtain ⟨k, u⟩ := e
    simp only [Memory.wfFrom, Bool.and_eq_true, decide_eq_true_eq] at h ⊢
    exact ⟨⟨⟨by omega, h.1.1.2⟩, h.1.2⟩, h.2⟩

/-- A write leaves every other address alone, in any list. -/
theorem Memory.read_write_other (m : Memory) (v : Byte) {a b : Nat} (h : b ≠ a) :
    (m.write a v).read b = m.read b := by
  have h' : a ≠ b := fun e => h e.symm
  induction m with
  | nil => by_cases hv : v = memDefault <;> simp [Memory.write, Memory.read, hv, h']
  | cons e rest ih =>
    obtain ⟨k, u⟩ := e
    simp only [Memory.write]
    by_cases h1 : a < k
    · by_cases hv : v = memDefault <;> simp [h1, hv, Memory.read, h']
    · by_cases h2 : a = k
      · subst h2
        by_cases hv : v = memDefault <;> simp [hv, Memory.read, h']
      · simp [h1, h2, Memory.read, ih]

/-- A write to a canonical memory is read back. -/
theorem Memory.read_write_same {m : Memory} {lo : Nat} (h : m.wfFrom lo = true) (a : Nat) (v : Byte) :
    (m.write a v).read a = v := by
  induction m generalizing lo with
  | nil => by_cases hv : v = memDefault <;> simp [Memory.write, Memory.read, hv]
  | cons e rest ih =>
    obtain ⟨k, u⟩ := e
    simp only [Memory.wfFrom, Bool.and_eq_true, decide_eq_true_eq] at h
    obtain ⟨⟨⟨-, -⟩, -⟩, hrest⟩ := h
    simp only [Memory.write]
    by_cases h1 : a < k
    · by_cases hv : v = memDefault
      · simp only [h1, hv, if_true, Memory.read]
        rw [if_neg (by omega), Memory.read_below hrest (by omega)]
      · simp [h1, hv, Memory.read]
    · by_cases h2 : a = k
      · subst h2
        by_cases hv : v = memDefault
        · simp only [hv, Nat.lt_irrefl, if_true, if_false]
          exact Memory.read_below hrest (by omega)
        · simp [hv, Memory.read]
      · simp only [h1, h2, if_false, Memory.read]
        rw [if_neg (fun e => h2 e.symm)]
        exact ih hrest

/-- A write at or above `lo` keeps the canonical form from `lo` on. -/
theorem Memory.wfFrom_write {m : Memory} {lo : Nat} (h : m.wfFrom lo = true) {a : Nat} (v : Byte)
    (hlo : lo ≤ a) (ha : a < 65536) : (m.write a v).wfFrom lo = true := by
  induction m generalizing lo with
  | nil => by_cases hv : v = memDefault <;> simp [Memory.write, Memory.wfFrom, hv, hlo, ha]
  | cons e rest ih =>
    obtain ⟨k, u⟩ := e
    have hw := h
    simp only [Memory.wfFrom, Bool.and_eq_true, decide_eq_true_eq] at h
    obtain ⟨⟨⟨hk, hk'⟩, hu⟩, hrest⟩ := h
    simp only [Memory.write]
    by_cases h1 : a < k
    · by_cases hv : v = memDefault
      · simpa [h1, hv] using hw
      · simp only [h1, hv, if_true, if_false, Memory.wfFrom, Bool.and_eq_true, decide_eq_true_eq]
        exact ⟨⟨⟨hlo, ha⟩, hv⟩, ⟨⟨by omega, hk'⟩, hu⟩, hrest⟩
    · by_cases h2 : a = k
      · subst h2
        by_cases hv : v = memDefault
        · simp only [hv, Nat.lt_irrefl, if_true, if_false]
          exact Memory.wfFrom_mono hrest (by omega)
        · simp only [hv, Nat.lt_irrefl, if_true, if_false, Memory.wfFrom, Bool.and_eq_true,
            decide_eq_true_eq]
          exact ⟨⟨⟨hk, hk'⟩, hv⟩, hrest⟩
      · simp only [h1, h2, if_false, Memory.wfFrom, Bool.and_eq_true, decide_eq_true_eq]
        exact ⟨⟨⟨hk, hk'⟩, hu⟩, ih hrest (by omega)⟩

/-- Two canonical memories that read the same everywhere are the same list: equal memories are equal
data. -/
theorem Memory.ext_of_wfFrom {m n : Memory} {lo : Nat} (hm : m.wfFrom lo = true)
    (hn : n.wfFrom lo = true) (h : ∀ a, m.read a = n.read a) : m = n := by
  induction m generalizing n lo with
  | nil =>
    cases n with
    | nil => rfl
    | cons e rest =>
      obtain ⟨k, u⟩ := e
      simp only [Memory.wfFrom, Bool.and_eq_true, decide_eq_true_eq] at hn
      exact absurd (by simpa [Memory.read] using (h k).symm) hn.1.2
  | cons e rest ih =>
    obtain ⟨k, u⟩ := e
    simp only [Memory.wfFrom, Bool.and_eq_true, decide_eq_true_eq] at hm
    obtain ⟨⟨⟨hk, -⟩, hu⟩, hr⟩ := hm
    cases n with
    | nil => exact absurd (by simpa [Memory.read] using h k) hu
    | cons e' rest' =>
      obtain ⟨k', u'⟩ := e'
      simp only [Memory.wfFrom, Bool.and_eq_true, decide_eq_true_eq] at hn
      obtain ⟨⟨⟨hk', -⟩, hu'⟩, hr'⟩ := hn
      have hkk : k = k' := by
        by_cases h1 : k < k'
        · have := h k
          rw [Memory.read, if_pos rfl, Memory.read, if_neg (by omega),
            Memory.read_below hr' (by omega)] at this
          exact absurd this hu
        · by_cases h2 : k' < k
          · have := h k'
            rw [Memory.read, if_neg (by omega), Memory.read_below hr (by omega), Memory.read,
              if_pos rfl] at this
            exact absurd this.symm hu'
          · omega
      subst hkk
      have huu : u = u' := by simpa [Memory.read] using h k
      subst huu
      congr 1
      refine ih hr hr' (fun a => ?_)
      by_cases ha : a = k
      · subst ha
        rw [Memory.read_below hr (by omega), Memory.read_below hr' (by omega)]
      · have := h a
        rwa [Memory.read, if_neg (fun e => ha e.symm), Memory.read, if_neg (fun e => ha e.symm)] at this

/-- A write at a 16-bit address keeps the canonical form. -/
theorem Memory.wf_write {m : Memory} (h : m.wf = true) (a : Word) (v : Byte) :
    (m.write a.toNat v).wf = true :=
  Memory.wfFrom_write h v (Nat.zero_le _) a.isLt

/-- The memory of the state after reset is in canonical form. -/
theorem reset_mem_wf : State.reset.mem.wf = true := rfl

/-! ### The operations over State -/

/-- What a byte write does to memory. -/
theorem memWrite8_mem (addr : Word) (v : Byte) (s : State) :
    (memWrite8 addr v s).mem =
      if kindAt s.platform addr = .storage then s.mem.write addr.toNat v else s.mem := rfl

/-- A byte write leaves what is read at every other address. -/
theorem memWrite8_read_other {addr a : Word} (v : Byte) (s : State) (h : a ≠ addr) :
    (memWrite8 addr v s).mem.read a.toNat = s.mem.read a.toNat := by
  rw [memWrite8_mem]
  split
  · exact Memory.read_write_other _ _ (fun e => h (BitVec.eq_of_toNat_eq e))
  · rfl

/-- A byte write to storage is read back. -/
theorem memWrite8_read_same {addr : Word} (v : Byte) {s : State} (hk : kindAt s.platform addr = .storage)
    (h : s.mem.wf = true) : (memWrite8 addr v s).mem.read addr.toNat = v := by
  rw [memWrite8_mem, if_pos hk]
  exact Memory.read_write_same h _ _

/-- A byte write outside storage changes no memory. -/
theorem memWrite8_of_not_storage {addr : Word} (v : Byte) {s : State}
    (hk : kindAt s.platform addr ≠ .storage) : (memWrite8 addr v s).mem = s.mem := by
  rw [memWrite8_mem, if_neg hk]

/-- A byte write keeps the canonical form. -/
theorem memWrite8_wf (addr : Word) (v : Byte) {s : State} (h : s.mem.wf = true) :
    (memWrite8 addr v s).mem.wf = true := by
  rw [memWrite8_mem]
  split
  · exact Memory.wf_write h _ _
  · exact h

/-- The stores of a list of addresses and bytes, one after another; one to an address that is not storage
changes nothing. Every instruction's and every entry's effect on memory is one of these. -/
def storeAll (p : Platform) (ws : List (Word × Byte)) (m : Memory) : Memory :=
  match ws with
  | [] => m
  | w :: rest =>
    storeAll p rest (if kindAt p w.1 = .storage then m.write w.1.toNat w.2 else m)

/-- Stores leave what is read at every address they do not name. -/
theorem storeAll_read_other (p : Platform) (ws : List (Word × Byte)) (m : Memory) {a : Word}
    (h : a ∉ ws.map Prod.fst) : (storeAll p ws m).read a.toNat = m.read a.toNat := by
  induction ws generalizing m with
  | nil => rfl
  | cons w rest ih =>
    simp only [List.map_cons, List.mem_cons, not_or] at h
    rw [storeAll, ih _ h.2]
    split
    · exact Memory.read_write_other _ _ (fun e => h.1 (BitVec.eq_of_toNat_eq e))
    · rfl

/-- Stores change no address that is not storage. -/
theorem storeAll_read_of_not_storage (p : Platform) (ws : List (Word × Byte)) (m : Memory) {a : Word}
    (h : kindAt p a ≠ .storage) : (storeAll p ws m).read a.toNat = m.read a.toNat := by
  induction ws generalizing m with
  | nil => rfl
  | cons w rest ih =>
    rw [storeAll, ih]
    by_cases hw : kindAt p w.1 = .storage
    · have hne : a ≠ w.1 := fun e => h (e ▸ hw)
      rw [if_pos hw, Memory.read_write_other _ _ (fun e => hne (BitVec.eq_of_toNat_eq e))]
    · rw [if_neg hw]

/-- Stores keep the canonical form. -/
theorem storeAll_wf (p : Platform) (ws : List (Word × Byte)) {m : Memory} (h : m.wf = true) :
    (storeAll p ws m).wf = true := by
  induction ws generalizing m with
  | nil => exact h
  | cons w rest ih =>
    apply ih
    split
    · exact Memory.wf_write h _ _
    · exact h

/-- A byte write as a list of one store. -/
theorem memWrite8_storeAll (addr : Word) (v : Byte) (s : State) :
    (memWrite8 addr v s).mem = storeAll s.platform [(addr, v)] s.mem := rfl

/-- A 16-bit write as two stores, the high byte first. -/
theorem memWrite16_storeAll (addr v : Word) (s : State) :
    (memWrite16 addr v s).mem =
      storeAll s.platform [(addr, hiByte v), (addr + 1, loByte v)] s.mem := rfl

/-- A push as a store at SP. -/
theorem push8_storeAll (v : Byte) (s : State) :
    (push8 v s).mem = storeAll s.platform [(s.sp, v)] s.mem := rfl

/-- A 16-bit push as two stores, the low byte first. -/
theorem push16_storeAll (v : Word) (s : State) :
    (push16 v s).mem = storeAll s.platform [(s.sp, loByte v), (s.sp - 1, hiByte v)] s.mem := rfl

/-- A 16-bit write keeps the canonical form. -/
theorem memWrite16_wf (addr v : Word) {s : State} (h : s.mem.wf = true) :
    (memWrite16 addr v s).mem.wf = true :=
  memWrite8_wf _ _ (memWrite8_wf _ _ h)

/-- A push keeps the canonical form. -/
theorem push8_wf (v : Byte) {s : State} (h : s.mem.wf = true) : (push8 v s).mem.wf = true :=
  memWrite8_wf _ _ h

/-- A 16-bit push keeps the canonical form. -/
theorem push16_wf (v : Word) {s : State} (h : s.mem.wf = true) : (push16 v s).mem.wf = true :=
  push8_wf _ (push8_wf _ h)

/-- The frame keeps the canonical form. -/
theorem stackAll_wf {s : State} (h : s.mem.wf = true) : (stackAll s).mem.wf = true := by
  unfold stackAll
  exact push8_wf _ (push8_wf _ (push8_wf _ (push16_wf _ (push16_wf _ h))))

/-- Accesses carried out again keep the canonical form. -/
theorem replay_wf (es : List Access) {s : State} (h : s.mem.wf = true) :
    (replay es s).mem.wf = true := by
  unfold replay
  induction es generalizing s with
  | nil => exact h
  | cons e rest ih =>
    rw [List.foldl_cons]
    apply ih
    cases e with
    | read addr v => exact h
    | write addr v => exact memWrite8_wf addr v h

end Sys2Proof.Machine
end

