-- ==== Sys2Proof/Laws/Ops.lean ====
section
/-! SUPPORT. One lemma for each shared operation that says once everything it can do, to be cited instead
of unfolding it. -/

namespace Sys2Proof.Machine

/-! ### Reads -/

/-- A read of storage or rom returns what memory holds. -/
theorem readValue_of_holds {addr : Word} {s : State}
    (h : (kindAt s.platform addr).holdsByte = true) : readValue addr s = s.mem.read addr.toNat := by
  simp [readValue, h]

/-- A read of storage or rom is recorded and changes nothing else. -/
theorem memRead8_of_holds {addr : Word} {s : State}
    (h : (kindAt s.platform addr).holdsByte = true) :
    memRead8 addr s =
      (s.mem.read addr.toNat, { s with bus := s.bus ++ [.read addr (s.mem.read addr.toNat)] }) := by
  simp [memRead8, readValue, h]

/-- A read of a device or an absent address is recorded and uses up one draw. -/
theorem memRead8_of_draw {addr : Word} {s : State}
    (h : (kindAt s.platform addr).holdsByte = false) :
    memRead8 addr s =
      (Config.freeByte s.draws,
       { s with bus := s.bus ++ [.read addr (Config.freeByte s.draws)], draws := s.draws + 1 }) := by
  simp [memRead8, readValue, h]

/-- Storage holds a byte. -/
theorem holdsByte_of_storage {p : Platform} {addr : Word} (h : kindAt p addr = .storage) :
    (kindAt p addr).holdsByte = true := by
  rw [h]; rfl

/-- A 16-bit read in terms of byte reads: the high byte first, at the lower address. -/
theorem memRead16_value (addr : Word) (s : State) :
    (memRead16 addr s).1 = join (readValue addr s) (readValue (addr + 1) (memRead8 addr s).2) := rfl

/-! ### Fetch -/

/-- PC one byte on, and then `k` bytes on. -/
theorem pc_add_one_add (pc : Word) (k : Nat) :
    pc + 1#16 + BitVec.ofNat 16 k = pc + BitVec.ofNat 16 (k + 1) := by
  apply BitVec.eq_of_toNat_eq
  simp only [BitVec.toNat_add, BitVec.toNat_ofNat]
  omega

/-- Fetching touches no field but PC, the record of accesses and the count of draws; PC moves by the number
of bytes. -/
theorem fetchBytes_frame (n : Nat) (s : State) :
    ∃ bus draws, (fetchBytes n s).2 =
      { s with pc := s.pc + BitVec.ofNat 16 n, bus := bus, draws := draws } := by
  induction n generalizing s with
  | zero => exact ⟨s.bus, s.draws, by simp [fetchBytes]⟩
  | succ k ih =>
    obtain ⟨bus, draws, h⟩ := ih (fetch8 s).2
    refine ⟨bus, draws, ?_⟩
    simp [fetchBytes, h, pc_add_one_add]

/-- The bytes fetched are as many as asked for. -/
theorem fetchBytes_length (n : Nat) (s : State) : (fetchBytes n s).1.length = n := by
  induction n generalizing s with
  | zero => rfl
  | succ k ih => simp [fetchBytes, ih]

/-- The fetch of one instruction fails only at an opcode byte without a row, and that byte is the one at
PC. -/
theorem fetchInstr_error {s : State} {op : Byte} (h : fetchInstr s = .error op) :
    op = readValue s.pc s ∧ opcodeRow op = none := by
  simp only [fetchInstr, fetch8_value] at h
  cases hrow : opcodeRow (readValue s.pc s) with
  | none =>
    simp only [hrow, Except.error.injEq] at h
    exact ⟨h.symm, h ▸ hrow⟩
  | some row =>
    simp only [hrow, decode_assigned hrow] at h
    obtain ⟨i, hi⟩ := takeOperands_of_length
      (fetchBytes_length (formLength row.form - 1) (fetch8 s).2)
    simp [hi] at h

/-- A fetch that succeeds has an opcode with a row, and leaves every field but PC, the record of accesses and
the count of draws. -/
theorem fetchInstr_ok {s t : State} {i : Instr} (h : fetchInstr s = .ok (i, t)) :
    ∃ row bus draws, opcodeRow (readValue s.pc s) = some row ∧
      t = { s with pc := s.pc + BitVec.ofNat 16 (formLength row.form), bus := bus, draws := draws } := by
  simp only [fetchInstr, fetch8_value] at h
  cases hrow : opcodeRow (readValue s.pc s) with
  | none => simp [hrow] at h
  | some row =>
    simp only [hrow, decode_assigned hrow] at h
    obtain ⟨j, hj⟩ := takeOperands_of_length
      (fetchBytes_length (formLength row.form - 1) (fetch8 s).2)
    simp only [hj, Except.ok.injEq, Prod.mk.injEq] at h
    obtain ⟨bus, draws, hf⟩ := fetchBytes_frame (formLength row.form - 1) (fetch8 s).2
    have hlen : 1 ≤ formLength row.form := by
      cases row.form <;> simp [formLength]
    have hpc : formLength row.form - 1 + 1 = formLength row.form := by omega
    refine ⟨row, bus, draws, rfl, ?_⟩
    rw [← h.2, hf]
    simp [pc_add_one_add, hpc]

/-! ### Exceptions and reset -/

/-- The stack pointer after the frame. -/
@[simp] theorem stackAll_sp (s : State) : (stackAll s).sp = s.sp - 7 := by
  simp only [stackAll, push8_sp, push16_sp]
  bv_omega

/-- The record of a 16-bit push. -/
theorem push16_bus (v : Word) (s : State) :
    (push16 v s).bus = s.bus ++ [.write s.sp (loByte v), .write (s.sp - 1) (hiByte v)] := by
  simp [push16]

/-- The record of a frame. -/
theorem stackAll_bus (s : State) :
    (stackAll s).bus = s.bus ++
      [.write s.sp (loByte s.pc), .write (s.sp - 1) (hiByte s.pc), .write (s.sp - 2) (loByte s.x),
       .write (s.sp - 3) (hiByte s.x), .write (s.sp - 4) s.a, .write (s.sp - 5) s.b,
       .write (s.sp - 6) s.ccr.toByte] := by
  have e2 : s.sp - 1 - 1 = s.sp - 2 := by rw [BitVec.sub_sub]; rfl
  have e3 : s.sp - 2 - 1 = s.sp - 3 := by rw [BitVec.sub_sub]; rfl
  have e4 : s.sp - 3 - 1 = s.sp - 4 := by rw [BitVec.sub_sub]; rfl
  have e5 : s.sp - 4 - 1 = s.sp - 5 := by rw [BitVec.sub_sub]; rfl
  have e6 : s.sp - 5 - 1 = s.sp - 6 := by rw [BitVec.sub_sub]; rfl
  simp only [stackAll, push8_bus, push16_bus, push8_sp, push16_sp]
  simp only [e2, e3, e4, e5, e6, List.append_assoc, List.cons_append, List.nil_append]

/-- Memory after the frame, as seven stores. -/
theorem stackAll_mem (s : State) :
    (stackAll s).mem = storeAll s.platform
      [(s.sp, loByte s.pc), (s.sp - 1, hiByte s.pc), (s.sp - 2, loByte s.x), (s.sp - 3, hiByte s.x),
       (s.sp - 4, s.a), (s.sp - 5, s.b), (s.sp - 6, s.ccr.toByte)] s.mem := by
  have e2 : s.sp - 1 - 1 = s.sp - 2 := by rw [BitVec.sub_sub]; rfl
  have e3 : s.sp - 2 - 1 = s.sp - 3 := by rw [BitVec.sub_sub]; rfl
  have e4 : s.sp - 3 - 1 = s.sp - 4 := by rw [BitVec.sub_sub]; rfl
  have e5 : s.sp - 4 - 1 = s.sp - 5 := by rw [BitVec.sub_sub]; rfl
  have e6 : s.sp - 5 - 1 = s.sp - 6 := by rw [BitVec.sub_sub]; rfl
  simp only [stackAll, push16, push8, memWrite8_mem, memWrite8_platform, e2, e3, e4, e5, e6]
  rfl

/-- The value and the record of loading a vector. -/
theorem enterHandler_pc (vector : Word) (s : State) :
    (enterHandler vector s).pc =
      join (readValue vector s) (readValue (vector + 1) (memRead8 vector s).2) := rfl

/-- Taking an exception while waiting pushes nothing; otherwise the frame is pushed first. -/
theorem takeException_cases (vector : Word) (s : State) :
    (s.waiting = true ∧ takeException vector s = enterHandler vector { s with waiting := false }) ∨
    (s.waiting = false ∧
      takeException vector s = enterHandler vector { stackAll s with waiting := false }) := by
  cases h : s.waiting
  · exact .inr ⟨rfl, by simp [takeException, h]⟩
  · exact .inl ⟨rfl, by simp [takeException, h]⟩

@[simp] theorem takeException_waiting (vector : Word) (s : State) :
    (takeException vector s).waiting = false := by
  simp [takeException]

@[simp] theorem takeException_platform (vector : Word) (s : State) :
    (takeException vector s).platform = s.platform := by
  rcases takeException_cases vector s with ⟨-, h⟩ | ⟨-, h⟩ <;> simp [h]

@[simp] theorem takeException_mask (vector : Word) (s : State) :
    (takeException vector s).ccr.i = true := by
  simp [takeException]

/-- An interrupt entry changes memory only by the frame. -/
theorem takeException_mem (vector : Word) (s : State) :
    (takeException vector s).mem = if s.waiting then s.mem else (stackAll s).mem := by
  rcases takeException_cases vector s with ⟨hw, h⟩ | ⟨hw, h⟩ <;> simp [h, hw]

/-- The value of PC after a reset event is the word at `VEC.reset`, whatever was drawn before. -/
theorem resetEvent_pc_of_holds {s : State}
    (h : (kindAt s.platform s.platform.vecReset).holdsByte = true)
    (h' : (kindAt s.platform (s.platform.vecReset + 1)).holdsByte = true) :
    (resetEvent s).pc =
      join (s.mem.read s.platform.vecReset.toNat) (s.mem.read (s.platform.vecReset + 1).toNat) := by
  have e : (resetEvent s).pc = (memRead16 s.platform.vecReset { s with draws := s.draws + 11 }).1 := rfl
  rw [e, memRead16_value, readValue_of_holds (s := { s with draws := s.draws + 11 }) h,
    readValue_of_holds (by simpa using h')]
  simp

/-- Accesses carried out again change only memory, the record and the count of draws. -/
theorem replay_frame (es : List Access) (s : State) :
    ∃ mem bus draws, replay es s = { s with mem := mem, bus := bus, draws := draws } := by
  unfold replay
  induction es generalizing s with
  | nil => exact ⟨s.mem, s.bus, s.draws, rfl⟩
  | cons e rest ih =>
    obtain ⟨mem, bus, draws, h⟩ := ih (replayAccess s e)
    refine ⟨mem, bus, draws, ?_⟩
    rw [List.foldl_cons, h]
    cases e <;> simp [replayAccess]

/-- Accesses carried out again change no address that is not storage. -/
theorem replay_read_of_not_storage (es : List Access) (s : State) {addr : Word}
    (h : kindAt s.platform addr ≠ .storage) :
    (replay es s).mem.read addr.toNat = s.mem.read addr.toNat := by
  unfold replay
  induction es generalizing s with
  | nil => rfl
  | cons e rest ih =>
    rw [List.foldl_cons, ih _ (by cases e <;> simpa [replayAccess] using h)]
    cases e with
    | read a v => rfl
    | write a v =>
      by_cases ha : addr = a
      · subst ha
        simp [replayAccess, memWrite8_of_not_storage v h]
      · exact memWrite8_read_other v s ha

end Sys2Proof.Machine
end

