-- ==== Sys2Proof/WellFormed.lean ====
section
/-! DEFINITION. Which operands an instruction may be written with. Every field of every format is a
whole byte or two whole bytes and admits every value (30_encoding.md R81, R91), so the type of Instr
itself leaves no ill-formed instruction, and `Instr.wellFormed` says so. What can be ill-formed is the
operand an assembly line names before it becomes a field (R98): a branch target out of reach, a direct
address above $00FF, an immediate wider than its register. Those are the checks. -/

namespace Sys2Proof

/-- Every term of Instr is well-formed: its mode is one TABLE 8 gives its mnemonic, since each
constructor is one row, and its field admits every value (R81, R90). -/
def Instr.wellFormed (_ : Instr) : Bool := true

/-- An 8-bit immediate fits its register (R83). -/
def immFits8 (n : Nat) : Bool := decide (n < 256)

/-- A 16-bit immediate or absolute address fits (R84, R86). -/
def immFits16 (n : Nat) : Bool := decide (n < 65536)

/-- The address can be reached by the direct form: $00 to $FF (R85, R98). -/
def dirReaches (addr : Word) : Bool := decide (addr.toNat < 256)

/-- The indexed offset is 0 to 255 (R87, R98). -/
def offsetFits (n : Int) : Bool := decide (0 ≤ n ∧ n ≤ 255)

/-- The distance from the instruction after the branch at `origin` to `target`, as a signed number
(R88, R98). -/
def branchDistance (origin target : Word) : Int := (target - (origin + 2)).toInt

/-- The target lies -128 to 127 bytes from the following instruction (R88, R98). -/
def branchReaches (origin target : Word) : Bool :=
  decide (-128 ≤ branchDistance origin target ∧ branchDistance origin target ≤ 127)

/-- The offset byte an assembler writes for a branch at `origin` to `target`, where it is in reach
(R98: `rel = target - (address of branch + 2)`). -/
def relOffset (origin target : Word) : Option Byte :=
  if branchReaches origin target then some (loByte (target - (origin + 2))) else none

end Sys2Proof
end

