-- ==== Sys2Proof/Laws/PerInstr.lean ====
section
/-! SUPPORT. Statements about every instruction, one lemma a constructor. `EncodingFitsRow`: the opcode byte of
an instruction is an assigned one, and the encoding has as many bytes as that row of TABLE 8 says (R80, R93). -/

/-- The instruction is well-formed, its opcode has a row, and its encoding has that row's length. -/
def Sys2Proof.Laws.EncodingFitsRow.Statement (i : Sys2Proof.Instr) : Prop :=
  i.wellFormed = true ∧
    (Sys2Proof.rowOf i).map (fun r => Sys2Proof.formLength r.form) = some (Sys2Proof.encode i).length

namespace Sys2Proof.Laws.EncodingFitsRow

open Sys2Proof

/-- The statement from the opcode byte, the length of the encoding and the row's length. -/
theorem of_opcode {i : Instr} (op : Byte) (n : Nat) (hop : opcodeOf i = op)
    (hn : (encode i).length = n) (hrow : (opcodeRow op).map (fun r => formLength r.form) = some n) :
    Statement i :=
  ⟨rfl, by rw [rowOf, hop, hn, hrow]⟩

theorem nop : Statement .nop := of_opcode 0x01 1 rfl rfl rfl
theorem lsrd : Statement .lsrd := of_opcode 0x04 1 rfl rfl rfl
theorem asld : Statement .asld := of_opcode 0x05 1 rfl rfl rfl
theorem tap : Statement .tap := of_opcode 0x06 1 rfl rfl rfl
theorem tpa : Statement .tpa := of_opcode 0x07 1 rfl rfl rfl
theorem inx : Statement .inx := of_opcode 0x08 1 rfl rfl rfl
theorem dex : Statement .dex := of_opcode 0x09 1 rfl rfl rfl
theorem clv : Statement .clv := of_opcode 0x0A 1 rfl rfl rfl
theorem sev : Statement .sev := of_opcode 0x0B 1 rfl rfl rfl
theorem clc : Statement .clc := of_opcode 0x0C 1 rfl rfl rfl
theorem sec : Statement .sec := of_opcode 0x0D 1 rfl rfl rfl
theorem cli : Statement .cli := of_opcode 0x0E 1 rfl rfl rfl
theorem sei : Statement .sei := of_opcode 0x0F 1 rfl rfl rfl
theorem sba : Statement .sba := of_opcode 0x10 1 rfl rfl rfl
theorem cba : Statement .cba := of_opcode 0x11 1 rfl rfl rfl
theorem tab : Statement .tab := of_opcode 0x16 1 rfl rfl rfl
theorem tba : Statement .tba := of_opcode 0x17 1 rfl rfl rfl
theorem daa : Statement .daa := of_opcode 0x19 1 rfl rfl rfl
theorem aba : Statement .aba := of_opcode 0x1B 1 rfl rfl rfl
theorem bra (rel : Byte) : Statement (.bra rel) := of_opcode 0x20 2 rfl rfl rfl
theorem brn (rel : Byte) : Statement (.brn rel) := of_opcode 0x21 2 rfl rfl rfl
theorem bhi (rel : Byte) : Statement (.bhi rel) := of_opcode 0x22 2 rfl rfl rfl
theorem bls (rel : Byte) : Statement (.bls rel) := of_opcode 0x23 2 rfl rfl rfl
theorem bcc (rel : Byte) : Statement (.bcc rel) := of_opcode 0x24 2 rfl rfl rfl
theorem bcs (rel : Byte) : Statement (.bcs rel) := of_opcode 0x25 2 rfl rfl rfl
theorem bne (rel : Byte) : Statement (.bne rel) := of_opcode 0x26 2 rfl rfl rfl
theorem beq (rel : Byte) : Statement (.beq rel) := of_opcode 0x27 2 rfl rfl rfl
theorem bvc (rel : Byte) : Statement (.bvc rel) := of_opcode 0x28 2 rfl rfl rfl
theorem bvs (rel : Byte) : Statement (.bvs rel) := of_opcode 0x29 2 rfl rfl rfl
theorem bpl (rel : Byte) : Statement (.bpl rel) := of_opcode 0x2A 2 rfl rfl rfl
theorem bmi (rel : Byte) : Statement (.bmi rel) := of_opcode 0x2B 2 rfl rfl rfl
theorem bge (rel : Byte) : Statement (.bge rel) := of_opcode 0x2C 2 rfl rfl rfl
theorem blt (rel : Byte) : Statement (.blt rel) := of_opcode 0x2D 2 rfl rfl rfl
theorem bgt (rel : Byte) : Statement (.bgt rel) := of_opcode 0x2E 2 rfl rfl rfl
theorem ble (rel : Byte) : Statement (.ble rel) := of_opcode 0x2F 2 rfl rfl rfl
theorem tsx : Statement .tsx := of_opcode 0x30 1 rfl rfl rfl
theorem ins : Statement .ins := of_opcode 0x31 1 rfl rfl rfl
theorem pula : Statement .pula := of_opcode 0x32 1 rfl rfl rfl
theorem pulb : Statement .pulb := of_opcode 0x33 1 rfl rfl rfl
theorem des : Statement .des := of_opcode 0x34 1 rfl rfl rfl
theorem txs : Statement .txs := of_opcode 0x35 1 rfl rfl rfl
theorem psha : Statement .psha := of_opcode 0x36 1 rfl rfl rfl
theorem pshb : Statement .pshb := of_opcode 0x37 1 rfl rfl rfl
theorem pulx : Statement .pulx := of_opcode 0x38 1 rfl rfl rfl
theorem rts : Statement .rts := of_opcode 0x39 1 rfl rfl rfl
theorem abx : Statement .abx := of_opcode 0x3A 1 rfl rfl rfl
theorem rti : Statement .rti := of_opcode 0x3B 1 rfl rfl rfl
theorem pshx : Statement .pshx := of_opcode 0x3C 1 rfl rfl rfl
theorem mul : Statement .mul := of_opcode 0x3D 1 rfl rfl rfl
theorem wai : Statement .wai := of_opcode 0x3E 1 rfl rfl rfl
theorem swi : Statement .swi := of_opcode 0x3F 1 rfl rfl rfl
theorem nega : Statement .nega := of_opcode 0x40 1 rfl rfl rfl
theorem coma : Statement .coma := of_opcode 0x43 1 rfl rfl rfl
theorem lsra : Statement .lsra := of_opcode 0x44 1 rfl rfl rfl
theorem rora : Statement .rora := of_opcode 0x46 1 rfl rfl rfl
theorem asra : Statement .asra := of_opcode 0x47 1 rfl rfl rfl
theorem asla : Statement .asla := of_opcode 0x48 1 rfl rfl rfl
theorem rola : Statement .rola := of_opcode 0x49 1 rfl rfl rfl
theorem deca : Statement .deca := of_opcode 0x4A 1 rfl rfl rfl
theorem inca : Statement .inca := of_opcode 0x4C 1 rfl rfl rfl
theorem tsta : Statement .tsta := of_opcode 0x4D 1 rfl rfl rfl
theorem clra : Statement .clra := of_opcode 0x4F 1 rfl rfl rfl
theorem negb : Statement .negb := of_opcode 0x50 1 rfl rfl rfl
theorem comb : Statement .comb := of_opcode 0x53 1 rfl rfl rfl
theorem lsrb : Statement .lsrb := of_opcode 0x54 1 rfl rfl rfl
theorem rorb : Statement .rorb := of_opcode 0x56 1 rfl rfl rfl
theorem asrb : Statement .asrb := of_opcode 0x57 1 rfl rfl rfl
theorem aslb : Statement .aslb := of_opcode 0x58 1 rfl rfl rfl
theorem rolb : Statement .rolb := of_opcode 0x59 1 rfl rfl rfl
theorem decb : Statement .decb := of_opcode 0x5A 1 rfl rfl rfl
theorem incb : Statement .incb := of_opcode 0x5C 1 rfl rfl rfl
theorem tstb : Statement .tstb := of_opcode 0x5D 1 rfl rfl rfl
theorem clrb : Statement .clrb := of_opcode 0x5F 1 rfl rfl rfl
theorem negInd (off : Byte) : Statement (.negInd off) := of_opcode 0x60 2 rfl rfl rfl
theorem comInd (off : Byte) : Statement (.comInd off) := of_opcode 0x63 2 rfl rfl rfl
theorem lsrInd (off : Byte) : Statement (.lsrInd off) := of_opcode 0x64 2 rfl rfl rfl
theorem rorInd (off : Byte) : Statement (.rorInd off) := of_opcode 0x66 2 rfl rfl rfl
theorem asrInd (off : Byte) : Statement (.asrInd off) := of_opcode 0x67 2 rfl rfl rfl
theorem aslInd (off : Byte) : Statement (.aslInd off) := of_opcode 0x68 2 rfl rfl rfl
theorem rolInd (off : Byte) : Statement (.rolInd off) := of_opcode 0x69 2 rfl rfl rfl
theorem decInd (off : Byte) : Statement (.decInd off) := of_opcode 0x6A 2 rfl rfl rfl
theorem incInd (off : Byte) : Statement (.incInd off) := of_opcode 0x6C 2 rfl rfl rfl
theorem tstInd (off : Byte) : Statement (.tstInd off) := of_opcode 0x6D 2 rfl rfl rfl
theorem jmpInd (off : Byte) : Statement (.jmpInd off) := of_opcode 0x6E 2 rfl rfl rfl
theorem clrInd (off : Byte) : Statement (.clrInd off) := of_opcode 0x6F 2 rfl rfl rfl
theorem negExt (addr : Word) : Statement (.negExt addr) := of_opcode 0x70 3 rfl rfl rfl
theorem comExt (addr : Word) : Statement (.comExt addr) := of_opcode 0x73 3 rfl rfl rfl
theorem lsrExt (addr : Word) : Statement (.lsrExt addr) := of_opcode 0x74 3 rfl rfl rfl
theorem rorExt (addr : Word) : Statement (.rorExt addr) := of_opcode 0x76 3 rfl rfl rfl
theorem asrExt (addr : Word) : Statement (.asrExt addr) := of_opcode 0x77 3 rfl rfl rfl
theorem aslExt (addr : Word) : Statement (.aslExt addr) := of_opcode 0x78 3 rfl rfl rfl
theorem rolExt (addr : Word) : Statement (.rolExt addr) := of_opcode 0x79 3 rfl rfl rfl
theorem decExt (addr : Word) : Statement (.decExt addr) := of_opcode 0x7A 3 rfl rfl rfl
theorem incExt (addr : Word) : Statement (.incExt addr) := of_opcode 0x7C 3 rfl rfl rfl
theorem tstExt (addr : Word) : Statement (.tstExt addr) := of_opcode 0x7D 3 rfl rfl rfl
theorem jmpExt (addr : Word) : Statement (.jmpExt addr) := of_opcode 0x7E 3 rfl rfl rfl
theorem clrExt (addr : Word) : Statement (.clrExt addr) := of_opcode 0x7F 3 rfl rfl rfl
theorem subaImm (v : Byte) : Statement (.subaImm v) := of_opcode 0x80 2 rfl rfl rfl
theorem cmpaImm (v : Byte) : Statement (.cmpaImm v) := of_opcode 0x81 2 rfl rfl rfl
theorem sbcaImm (v : Byte) : Statement (.sbcaImm v) := of_opcode 0x82 2 rfl rfl rfl
theorem subdImm (v : Word) : Statement (.subdImm v) := of_opcode 0x83 3 rfl rfl rfl
theorem andaImm (v : Byte) : Statement (.andaImm v) := of_opcode 0x84 2 rfl rfl rfl
theorem bitaImm (v : Byte) : Statement (.bitaImm v) := of_opcode 0x85 2 rfl rfl rfl
theorem ldaaImm (v : Byte) : Statement (.ldaaImm v) := of_opcode 0x86 2 rfl rfl rfl
theorem eoraImm (v : Byte) : Statement (.eoraImm v) := of_opcode 0x88 2 rfl rfl rfl
theorem adcaImm (v : Byte) : Statement (.adcaImm v) := of_opcode 0x89 2 rfl rfl rfl
theorem oraaImm (v : Byte) : Statement (.oraaImm v) := of_opcode 0x8A 2 rfl rfl rfl
theorem addaImm (v : Byte) : Statement (.addaImm v) := of_opcode 0x8B 2 rfl rfl rfl
theorem cpxImm (v : Word) : Statement (.cpxImm v) := of_opcode 0x8C 3 rfl rfl rfl
theorem bsr (rel : Byte) : Statement (.bsr rel) := of_opcode 0x8D 2 rfl rfl rfl
theorem ldsImm (v : Word) : Statement (.ldsImm v) := of_opcode 0x8E 3 rfl rfl rfl
theorem subaDir (d : Byte) : Statement (.subaDir d) := of_opcode 0x90 2 rfl rfl rfl
theorem cmpaDir (d : Byte) : Statement (.cmpaDir d) := of_opcode 0x91 2 rfl rfl rfl
theorem sbcaDir (d : Byte) : Statement (.sbcaDir d) := of_opcode 0x92 2 rfl rfl rfl
theorem subdDir (d : Byte) : Statement (.subdDir d) := of_opcode 0x93 2 rfl rfl rfl
theorem andaDir (d : Byte) : Statement (.andaDir d) := of_opcode 0x94 2 rfl rfl rfl
theorem bitaDir (d : Byte) : Statement (.bitaDir d) := of_opcode 0x95 2 rfl rfl rfl
theorem ldaaDir (d : Byte) : Statement (.ldaaDir d) := of_opcode 0x96 2 rfl rfl rfl
theorem staaDir (d : Byte) : Statement (.staaDir d) := of_opcode 0x97 2 rfl rfl rfl
theorem eoraDir (d : Byte) : Statement (.eoraDir d) := of_opcode 0x98 2 rfl rfl rfl
theorem adcaDir (d : Byte) : Statement (.adcaDir d) := of_opcode 0x99 2 rfl rfl rfl
theorem oraaDir (d : Byte) : Statement (.oraaDir d) := of_opcode 0x9A 2 rfl rfl rfl
theorem addaDir (d : Byte) : Statement (.addaDir d) := of_opcode 0x9B 2 rfl rfl rfl
theorem cpxDir (d : Byte) : Statement (.cpxDir d) := of_opcode 0x9C 2 rfl rfl rfl
theorem jsrDir (d : Byte) : Statement (.jsrDir d) := of_opcode 0x9D 2 rfl rfl rfl
theorem ldsDir (d : Byte) : Statement (.ldsDir d) := of_opcode 0x9E 2 rfl rfl rfl
theorem stsDir (d : Byte) : Statement (.stsDir d) := of_opcode 0x9F 2 rfl rfl rfl
theorem subaInd (off : Byte) : Statement (.subaInd off) := of_opcode 0xA0 2 rfl rfl rfl
theorem cmpaInd (off : Byte) : Statement (.cmpaInd off) := of_opcode 0xA1 2 rfl rfl rfl
theorem sbcaInd (off : Byte) : Statement (.sbcaInd off) := of_opcode 0xA2 2 rfl rfl rfl
theorem subdInd (off : Byte) : Statement (.subdInd off) := of_opcode 0xA3 2 rfl rfl rfl
theorem andaInd (off : Byte) : Statement (.andaInd off) := of_opcode 0xA4 2 rfl rfl rfl
theorem bitaInd (off : Byte) : Statement (.bitaInd off) := of_opcode 0xA5 2 rfl rfl rfl
theorem ldaaInd (off : Byte) : Statement (.ldaaInd off) := of_opcode 0xA6 2 rfl rfl rfl
theorem staaInd (off : Byte) : Statement (.staaInd off) := of_opcode 0xA7 2 rfl rfl rfl
theorem eoraInd (off : Byte) : Statement (.eoraInd off) := of_opcode 0xA8 2 rfl rfl rfl
theorem adcaInd (off : Byte) : Statement (.adcaInd off) := of_opcode 0xA9 2 rfl rfl rfl
theorem oraaInd (off : Byte) : Statement (.oraaInd off) := of_opcode 0xAA 2 rfl rfl rfl
theorem addaInd (off : Byte) : Statement (.addaInd off) := of_opcode 0xAB 2 rfl rfl rfl
theorem cpxInd (off : Byte) : Statement (.cpxInd off) := of_opcode 0xAC 2 rfl rfl rfl
theorem jsrInd (off : Byte) : Statement (.jsrInd off) := of_opcode 0xAD 2 rfl rfl rfl
theorem ldsInd (off : Byte) : Statement (.ldsInd off) := of_opcode 0xAE 2 rfl rfl rfl
theorem stsInd (off : Byte) : Statement (.stsInd off) := of_opcode 0xAF 2 rfl rfl rfl
theorem subaExt (addr : Word) : Statement (.subaExt addr) := of_opcode 0xB0 3 rfl rfl rfl
theorem cmpaExt (addr : Word) : Statement (.cmpaExt addr) := of_opcode 0xB1 3 rfl rfl rfl
theorem sbcaExt (addr : Word) : Statement (.sbcaExt addr) := of_opcode 0xB2 3 rfl rfl rfl
theorem subdExt (addr : Word) : Statement (.subdExt addr) := of_opcode 0xB3 3 rfl rfl rfl
theorem andaExt (addr : Word) : Statement (.andaExt addr) := of_opcode 0xB4 3 rfl rfl rfl
theorem bitaExt (addr : Word) : Statement (.bitaExt addr) := of_opcode 0xB5 3 rfl rfl rfl
theorem ldaaExt (addr : Word) : Statement (.ldaaExt addr) := of_opcode 0xB6 3 rfl rfl rfl
theorem staaExt (addr : Word) : Statement (.staaExt addr) := of_opcode 0xB7 3 rfl rfl rfl
theorem eoraExt (addr : Word) : Statement (.eoraExt addr) := of_opcode 0xB8 3 rfl rfl rfl
theorem adcaExt (addr : Word) : Statement (.adcaExt addr) := of_opcode 0xB9 3 rfl rfl rfl
theorem oraaExt (addr : Word) : Statement (.oraaExt addr) := of_opcode 0xBA 3 rfl rfl rfl
theorem addaExt (addr : Word) : Statement (.addaExt addr) := of_opcode 0xBB 3 rfl rfl rfl
theorem cpxExt (addr : Word) : Statement (.cpxExt addr) := of_opcode 0xBC 3 rfl rfl rfl
theorem jsrExt (addr : Word) : Statement (.jsrExt addr) := of_opcode 0xBD 3 rfl rfl rfl
theorem ldsExt (addr : Word) : Statement (.ldsExt addr) := of_opcode 0xBE 3 rfl rfl rfl
theorem stsExt (addr : Word) : Statement (.stsExt addr) := of_opcode 0xBF 3 rfl rfl rfl
theorem subbImm (v : Byte) : Statement (.subbImm v) := of_opcode 0xC0 2 rfl rfl rfl
theorem cmpbImm (v : Byte) : Statement (.cmpbImm v) := of_opcode 0xC1 2 rfl rfl rfl
theorem sbcbImm (v : Byte) : Statement (.sbcbImm v) := of_opcode 0xC2 2 rfl rfl rfl
theorem adddImm (v : Word) : Statement (.adddImm v) := of_opcode 0xC3 3 rfl rfl rfl
theorem andbImm (v : Byte) : Statement (.andbImm v) := of_opcode 0xC4 2 rfl rfl rfl
theorem bitbImm (v : Byte) : Statement (.bitbImm v) := of_opcode 0xC5 2 rfl rfl rfl
theorem ldabImm (v : Byte) : Statement (.ldabImm v) := of_opcode 0xC6 2 rfl rfl rfl
theorem eorbImm (v : Byte) : Statement (.eorbImm v) := of_opcode 0xC8 2 rfl rfl rfl
theorem adcbImm (v : Byte) : Statement (.adcbImm v) := of_opcode 0xC9 2 rfl rfl rfl
theorem orabImm (v : Byte) : Statement (.orabImm v) := of_opcode 0xCA 2 rfl rfl rfl
theorem addbImm (v : Byte) : Statement (.addbImm v) := of_opcode 0xCB 2 rfl rfl rfl
theorem lddImm (v : Word) : Statement (.lddImm v) := of_opcode 0xCC 3 rfl rfl rfl
theorem ldxImm (v : Word) : Statement (.ldxImm v) := of_opcode 0xCE 3 rfl rfl rfl
theorem subbDir (d : Byte) : Statement (.subbDir d) := of_opcode 0xD0 2 rfl rfl rfl
theorem cmpbDir (d : Byte) : Statement (.cmpbDir d) := of_opcode 0xD1 2 rfl rfl rfl
theorem sbcbDir (d : Byte) : Statement (.sbcbDir d) := of_opcode 0xD2 2 rfl rfl rfl
theorem adddDir (d : Byte) : Statement (.adddDir d) := of_opcode 0xD3 2 rfl rfl rfl
theorem andbDir (d : Byte) : Statement (.andbDir d) := of_opcode 0xD4 2 rfl rfl rfl
theorem bitbDir (d : Byte) : Statement (.bitbDir d) := of_opcode 0xD5 2 rfl rfl rfl
theorem ldabDir (d : Byte) : Statement (.ldabDir d) := of_opcode 0xD6 2 rfl rfl rfl
theorem stabDir (d : Byte) : Statement (.stabDir d) := of_opcode 0xD7 2 rfl rfl rfl
theorem eorbDir (d : Byte) : Statement (.eorbDir d) := of_opcode 0xD8 2 rfl rfl rfl
theorem adcbDir (d : Byte) : Statement (.adcbDir d) := of_opcode 0xD9 2 rfl rfl rfl
theorem orabDir (d : Byte) : Statement (.orabDir d) := of_opcode 0xDA 2 rfl rfl rfl
theorem addbDir (d : Byte) : Statement (.addbDir d) := of_opcode 0xDB 2 rfl rfl rfl
theorem lddDir (d : Byte) : Statement (.lddDir d) := of_opcode 0xDC 2 rfl rfl rfl
theorem stdDir (d : Byte) : Statement (.stdDir d) := of_opcode 0xDD 2 rfl rfl rfl
theorem ldxDir (d : Byte) : Statement (.ldxDir d) := of_opcode 0xDE 2 rfl rfl rfl
theorem stxDir (d : Byte) : Statement (.stxDir d) := of_opcode 0xDF 2 rfl rfl rfl
theorem subbInd (off : Byte) : Statement (.subbInd off) := of_opcode 0xE0 2 rfl rfl rfl
theorem cmpbInd (off : Byte) : Statement (.cmpbInd off) := of_opcode 0xE1 2 rfl rfl rfl
theorem sbcbInd (off : Byte) : Statement (.sbcbInd off) := of_opcode 0xE2 2 rfl rfl rfl
theorem adddInd (off : Byte) : Statement (.adddInd off) := of_opcode 0xE3 2 rfl rfl rfl
theorem andbInd (off : Byte) : Statement (.andbInd off) := of_opcode 0xE4 2 rfl rfl rfl
theorem bitbInd (off : Byte) : Statement (.bitbInd off) := of_opcode 0xE5 2 rfl rfl rfl
theorem ldabInd (off : Byte) : Statement (.ldabInd off) := of_opcode 0xE6 2 rfl rfl rfl
theorem stabInd (off : Byte) : Statement (.stabInd off) := of_opcode 0xE7 2 rfl rfl rfl
theorem eorbInd (off : Byte) : Statement (.eorbInd off) := of_opcode 0xE8 2 rfl rfl rfl
theorem adcbInd (off : Byte) : Statement (.adcbInd off) := of_opcode 0xE9 2 rfl rfl rfl
theorem orabInd (off : Byte) : Statement (.orabInd off) := of_opcode 0xEA 2 rfl rfl rfl
theorem addbInd (off : Byte) : Statement (.addbInd off) := of_opcode 0xEB 2 rfl rfl rfl
theorem lddInd (off : Byte) : Statement (.lddInd off) := of_opcode 0xEC 2 rfl rfl rfl
theorem stdInd (off : Byte) : Statement (.stdInd off) := of_opcode 0xED 2 rfl rfl rfl
theorem ldxInd (off : Byte) : Statement (.ldxInd off) := of_opcode 0xEE 2 rfl rfl rfl
theorem stxInd (off : Byte) : Statement (.stxInd off) := of_opcode 0xEF 2 rfl rfl rfl
theorem subbExt (addr : Word) : Statement (.subbExt addr) := of_opcode 0xF0 3 rfl rfl rfl
theorem cmpbExt (addr : Word) : Statement (.cmpbExt addr) := of_opcode 0xF1 3 rfl rfl rfl
theorem sbcbExt (addr : Word) : Statement (.sbcbExt addr) := of_opcode 0xF2 3 rfl rfl rfl
theorem adddExt (addr : Word) : Statement (.adddExt addr) := of_opcode 0xF3 3 rfl rfl rfl
theorem andbExt (addr : Word) : Statement (.andbExt addr) := of_opcode 0xF4 3 rfl rfl rfl
theorem bitbExt (addr : Word) : Statement (.bitbExt addr) := of_opcode 0xF5 3 rfl rfl rfl
theorem ldabExt (addr : Word) : Statement (.ldabExt addr) := of_opcode 0xF6 3 rfl rfl rfl
theorem stabExt (addr : Word) : Statement (.stabExt addr) := of_opcode 0xF7 3 rfl rfl rfl
theorem eorbExt (addr : Word) : Statement (.eorbExt addr) := of_opcode 0xF8 3 rfl rfl rfl
theorem adcbExt (addr : Word) : Statement (.adcbExt addr) := of_opcode 0xF9 3 rfl rfl rfl
theorem orabExt (addr : Word) : Statement (.orabExt addr) := of_opcode 0xFA 3 rfl rfl rfl
theorem addbExt (addr : Word) : Statement (.addbExt addr) := of_opcode 0xFB 3 rfl rfl rfl
theorem lddExt (addr : Word) : Statement (.lddExt addr) := of_opcode 0xFC 3 rfl rfl rfl
theorem stdExt (addr : Word) : Statement (.stdExt addr) := of_opcode 0xFD 3 rfl rfl rfl
theorem ldxExt (addr : Word) : Statement (.ldxExt addr) := of_opcode 0xFE 3 rfl rfl rfl
theorem stxExt (addr : Word) : Statement (.stxExt addr) := of_opcode 0xFF 3 rfl rfl rfl

end Sys2Proof.Laws.EncodingFitsRow
end

