-- ==== Sys2Proof/Laws/Step.lean ====
section
/-! SUPPORT. Everything a step can do, said once: one lemma for each of its three outcomes. -/

namespace Sys2Proof.Machine

@[simp] theorem presented_of_nil {s : State} (h : s.inputs = []) : presented s = quietBoundary := by
  simp [presented, h]

/-- A guarded outcome is a next state exactly where the outcome is and no access was at an address whose read
has a side effect. -/
theorem guardBus_next {o : Host.Outcome State Fault Refusal} {t : State} :
    guardBus o = .next t ↔ o = .next t ∧ accessAtEffect t = none := by
  cases o with
  | next u =>
    cases h : accessAtEffect u with
    | none =>
      constructor
      · intro e
        simp only [guardBus, h, Host.Outcome.next.injEq] at e
        exact ⟨by rw [e], e ▸ h⟩
      · intro e
        simp [guardBus, h, e.1]
    | some a =>
      constructor
      · intro e; simp [guardBus, h] at e
      · rintro ⟨e, h'⟩
        cases e
        simp [h] at h'
  | fault e => simp [guardBus]
  | refused e => simp [guardBus]

/-- A guard adds no fault. -/
theorem guardBus_fault {o : Host.Outcome State Fault Refusal} {e : Fault} :
    guardBus o = .fault e ↔ o = .fault e := by
  cases o with
  | next u => cases h : accessAtEffect u <;> simp [guardBus, h]
  | fault e => simp [guardBus]
  | refused e => simp [guardBus]

/-- A guarded outcome is refused where the outcome is, or at an access to an address whose read has a side
effect. -/
theorem guardBus_refused {o : Host.Outcome State Fault Refusal} {e : Refusal}
    (h : guardBus o = .refused e) :
    o = .refused e ∨ ∃ t a, o = .next t ∧ accessAtEffect t = some a ∧ e = .busActivityUnknown a := by
  cases o with
  | next u =>
    cases hu : accessAtEffect u with
    | none => simp [guardBus, hu] at h
    | some a =>
      simp only [guardBus, hu, Host.Outcome.refused.injEq] at h
      exact .inr ⟨u, a, rfl, hu, h.symm⟩
  | fault e => simp [guardBus] at h
  | refused e => exact .inl (by simpa [guardBus] using h)

/-- Where no read has a side effect, the guard lets everything through. -/
theorem guardBus_of_no_effect {o : Host.Outcome State Fault Refusal}
    (h : ∀ t, o = .next t → ∀ a, hasReadEffect t.platform a = false) : guardBus o = o := by
  cases o with
  | next u =>
    have : accessAtEffect u = none := by
      simp [accessAtEffect, h u rfl]
    simp [guardBus, this]
  | fault e => rfl
  | refused e => rfl

@[simp] theorem eligibleSource_beginStep (asserted : List SourceName) (s : State) :
    eligibleSource asserted (beginStep s) = eligibleSource asserted s := rfl

@[simp] theorem pointerAtEffect_beginStep (s : State) :
    pointerAtEffect (beginStep s) = pointerAtEffect s := rfl

/-- What a boundary without reset can answer: an interrupt entry, the wait, or one instruction, and each of
them only where no pointer is at an address whose read has a side effect. -/
theorem runBoundary_next {asserted : List SourceName} {s t : State}
    (h : runBoundary asserted s = .next t) :
    pointerAtEffect s = none ∧
    ((∃ src, eligibleSource asserted s = some src ∧ t = takeException src.vector s) ∨
     (eligibleSource asserted s = none ∧ s.waiting = true ∧ t = s) ∨
     (eligibleSource asserted s = none ∧ s.waiting = false ∧
       ∃ i u, fetchInstr s = .ok (i, u) ∧ exec i u = .next t)) := by
  unfold runBoundary at h
  cases hq : pointerAtEffect s with
  | some a => simp [hq] at h
  | none =>
    refine ⟨rfl, ?_⟩
    simp only [hq] at h
    cases hs : eligibleSource asserted s with
    | some src =>
      simp only [hs, Host.Outcome.next.injEq] at h
      exact .inl ⟨src, rfl, h.symm⟩
    | none =>
      simp only [hs] at h
      cases hw : s.waiting with
      | true =>
        simp only [hw, if_true, Host.Outcome.next.injEq] at h
        exact .inr (.inl ⟨rfl, rfl, h.symm⟩)
      | false =>
        simp only [hw, Bool.false_eq_true, if_false, runInstruction] at h
        cases hf : fetchInstr s with
        | error op => simp [hf] at h
        | ok r =>
          simp only [hf] at h
          exact .inr (.inr ⟨rfl, rfl, r.1, r.2, rfl, h⟩)

/-! What has been completed when a reset cuts a boundary, by what the boundary would have answered. -/

@[simp] theorem completedAccesses_zero (asserted : List SourceName) (s : State) :
    completedAccesses 0 asserted s = .ok [] := rfl

theorem completedAccesses_of_next {k : Nat} {asserted : List SourceName} {s t : State} (hk : k ≠ 0)
    (h : guardBus (runBoundary asserted s) = .next t) :
    completedAccesses k asserted s = .ok (t.bus.take k) := by
  cases k with
  | zero => exact absurd rfl hk
  | succ n => simp only [completedAccesses, accessesOf, h, Except.map]

theorem completedAccesses_of_fault {k : Nat} {asserted : List SourceName} {s : State} {e : Fault}
    (hk : k ≠ 0) (h : guardBus (runBoundary asserted s) = .fault e) :
    completedAccesses k asserted s = .ok ((fetch8 s).2.bus.take k) := by
  cases k with
  | zero => exact absurd rfl hk
  | succ n => simp only [completedAccesses, accessesOf, h, Except.map]

theorem completedAccesses_of_refused {k : Nat} {asserted : List SourceName} {s : State} {e : Refusal}
    (hk : k ≠ 0) (h : guardBus (runBoundary asserted s) = .refused e) :
    completedAccesses k asserted s = .error e := by
  cases k with
  | zero => exact absurd rfl hk
  | succ n => simp only [completedAccesses, accessesOf, h, Except.map]

/-- What a reset can answer: the reset after the accesses completed, and nothing else. -/
theorem resetAfter_next {k : Nat} {asserted : List SourceName} {s t : State}
    (h : resetAfter k asserted s = .next t) :
    ∃ es, completedAccesses k asserted s = .ok es ∧ t = resetEvent (replay es s) := by
  unfold resetAfter at h
  cases hc : completedAccesses k asserted s with
  | error e => simp [hc] at h
  | ok es =>
    simp only [hc, Host.Outcome.next.injEq] at h
    exact ⟨es, rfl, h.symm⟩

/-- A step that answers a next state is a reset, an interrupt entry, a wait, or one instruction: nothing
else. -/
theorem step_cases {s t : State} (h : step s = .next t) :
    (∃ k es, (presented s).reset = some k ∧
      completedAccesses k (presented s).asserted (beginStep s) = .ok es ∧
      t = resetEvent (replay es (beginStep s))) ∨
    (∃ src, (presented s).reset = none ∧ eligibleSource (presented s).asserted s = some src ∧
      pointerAtEffect s = none ∧ t = takeException src.vector (beginStep s)) ∨
    ((presented s).reset = none ∧ eligibleSource (presented s).asserted s = none ∧
      s.waiting = true ∧ pointerAtEffect s = none ∧ t = beginStep s) ∨
    (RunsInstruction s ∧
      ∃ i u, fetchInstr (beginStep s) = .ok (i, u) ∧ exec i u = .next t) := by
  obtain ⟨h, -⟩ := guardBus_next.mp h
  cases hr : (presented s).reset with
  | some k =>
    simp only [hr] at h
    obtain ⟨es, he, ht⟩ := resetAfter_next h
    exact .inl ⟨k, es, rfl, he, ht⟩
  | none =>
    simp only [hr] at h
    obtain ⟨hp, ⟨src, hs, ht⟩ | ⟨hs, hw, ht⟩ | ⟨hs, hw, hx⟩⟩ := runBoundary_next h
    · exact .inr (.inl ⟨src, rfl, hs, hp, ht⟩)
    · exact .inr (.inr (.inl ⟨rfl, hs, hw, hp, ht⟩))
    · exact .inr (.inr (.inr ⟨⟨hr, hs, hw, hp⟩, hx⟩))

/-- Where the step runs an instruction, it is the fetch and `exec`, guarded. -/
theorem step_of_runs {s : State} (h : RunsInstruction s) :
    step s = guardBus
      (match fetchInstr (beginStep s) with
       | .error op => .fault (.illegalOpcode op s.pc)
       | .ok (i, t) => exec i t) := by
  obtain ⟨h1, h2, h3, h4⟩ := h
  simp only [step, stepBoundary, h1, runBoundary, eligibleSource_beginStep, h2, beginStep_waiting, h3,
    runInstruction, pointerAtEffect_beginStep, h4]
  rfl

/-- Where memory holds these bytes at PC, fetching as many of them gives them, moves PC past them and records
their reads. -/
theorem fetchBytes_of_bytesAtPc {s : State} {bytes : List Byte} (h : BytesAtPc s bytes) :
    fetchBytes bytes.length s =
      (bytes, { s with pc := s.pc + BitVec.ofNat 16 bytes.length,
                       bus := s.bus ++ fetchReads s.pc bytes }) := by
  induction bytes generalizing s with
  | nil => simp [fetchBytes, fetchReads]
  | cons b rest ih =>
    have h0 := h 0 (by simp)
    simp only [BitVec.add_zero, List.getElem_cons_zero] at h0
    have hf : fetch8 s = (b, { s with pc := s.pc + 1, bus := s.bus ++ [.read s.pc b] }) := by
      simp only [fetch8, memRead8_of_holds h0.1, h0.2]
    have hrest := @ih (fetch8 s).2 (by
      intro k hk
      have hb := h (k + 1) (by simp; omega)
      rw [← pc_add_one_add] at hb
      rw [hf]
      exact hb)
    rw [hf] at hrest
    simp only [List.length_cons, fetchBytes, hf, hrest, fetchReads]
    simp [pc_add_one_add]

/-- What a reset after some accesses leaves: the mask set, not waiting, the same platform, and the inputs used
up. -/
theorem resetEvent_replay_frame (es : List Access) (s : State) :
    (resetEvent (replay es s)).ccr.i = true ∧ (resetEvent (replay es s)).waiting = false ∧
      (resetEvent (replay es s)).platform = s.platform ∧
      (resetEvent (replay es s)).inputs = s.inputs ∧
      (resetEvent (replay es s)).mem = (replay es s).mem := by
  obtain ⟨mem, bus, draws, h⟩ := replay_frame es s
  simp [h]

end Sys2Proof.Machine
end

