-- ==== Sys2Proof/Laws/Trace.lean ====
section
/-! SUPPORT. The record of accesses says everything that happens to memory: whatever an operation, an
instruction or a step does, memory afterwards is memory before with the recorded writes landed (R57, R60,
log 13). One lemma per shared operation, then `exec` and the step. -/

namespace Sys2Proof.Machine

/-- `t` comes from `s` by accesses that its record shows: the record has grown by some accesses, memory is
that of `s` with their writes landed, and the platform is the same. -/
def Traced (s t : State) : Prop :=
  t.platform = s.platform ∧ ∃ es, t.bus = s.bus ++ es ∧ t.mem = landed s.platform es s.mem

theorem landed_append (p : Platform) (es fs : List Access) (m : Memory) :
    landed p (es ++ fs) m = landed p fs (landed p es m) := by
  induction es generalizing m with
  | nil => rfl
  | cons e rest ih => cases e <;> exact ih _

/-- Registers may be written beside. -/
theorem Traced.regs {s t u : State} (h : Traced s t) (hp : u.platform = t.platform)
    (hb : u.bus = t.bus) (hm : u.mem = t.mem) : Traced s u := by
  obtain ⟨p, es, b, m⟩ := h
  exact ⟨hp.trans p, es, hb.trans b, hm.trans m⟩

theorem Traced.refl (s : State) : Traced s s := ⟨rfl, [], by simp, rfl⟩

theorem Traced.trans {s t u : State} (h : Traced s t) (g : Traced t u) : Traced s u := by
  obtain ⟨p, es, b, m⟩ := h
  obtain ⟨q, fs, c, n⟩ := g
  exact ⟨q.trans p, es ++ fs, by rw [c, b, List.append_assoc], by rw [n, m, p, landed_append]⟩

/-- What follows a change of registers follows the state itself. -/
theorem Traced.from {s s' t : State} (h : Traced s' t) (hp : s'.platform = s.platform)
    (hb : s'.bus = s.bus) (hm : s'.mem = s.mem) : Traced s t :=
  ((Traced.refl s).regs hp hb hm).trans h

/-! ### Shared operations -/

theorem memRead8_traced (addr : Word) (s : State) : Traced s (memRead8 addr s).2 :=
  ⟨rfl, [_], rfl, rfl⟩

theorem memWrite8_traced (addr : Word) (v : Byte) (s : State) : Traced s (memWrite8 addr v s) :=
  ⟨rfl, [_], rfl, rfl⟩

theorem memRead16_traced (addr : Word) (s : State) : Traced s (memRead16 addr s).2 :=
  (memRead8_traced addr s).trans (memRead8_traced (addr + 1) _)

theorem memWrite16_traced (addr v : Word) (s : State) : Traced s (memWrite16 addr v s) :=
  (memWrite8_traced addr (hiByte v) s).trans (memWrite8_traced (addr + 1) (loByte v) _)

theorem push8_traced (v : Byte) (s : State) : Traced s (push8 v s) :=
  (memWrite8_traced s.sp v s).regs rfl rfl rfl

theorem push16_traced (v : Word) (s : State) : Traced s (push16 v s) :=
  (push8_traced (loByte v) s).trans (push8_traced (hiByte v) _)

theorem pull8_traced (s : State) : Traced s (pull8 s).2 :=
  (memRead8_traced (s.sp + 1) { s with sp := s.sp + 1 }).from rfl rfl rfl

theorem pull16_traced (s : State) : Traced s (pull16 s).2 :=
  (pull8_traced s).trans (pull8_traced _)

theorem stackAll_traced (s : State) : Traced s (stackAll s) :=
  ((((push16_traced s.pc s).trans (push16_traced s.x _)).trans (push8_traced s.a _)).trans
    (push8_traced s.b _)).trans (push8_traced s.ccr.toByte _)

theorem enterHandler_traced (vector : Word) (s : State) : Traced s (enterHandler vector s) :=
  ((memRead16_traced vector { s with ccr := { s.ccr with i := true } }).from rfl rfl rfl).regs rfl rfl rfl

theorem takeException_traced (vector : Word) (s : State) : Traced s (takeException vector s) := by
  unfold takeException
  cases s.waiting
  · exact ((stackAll_traced s).regs rfl rfl rfl).trans (enterHandler_traced vector _)
  · exact (enterHandler_traced vector { s with waiting := false }).from rfl rfl rfl

theorem returnFromException_traced (s : State) : Traced s (returnFromException s) :=
  (((((pull8_traced s).trans (pull8_traced _)).trans (pull8_traced _)).trans
    (pull16_traced _)).trans (pull16_traced _)).regs rfl rfl rfl

theorem operand8_traced (o : Operand8) (s : State) : Traced s (operand8 o s).2 := by
  cases o with
  | imm v => exact .refl s
  | mem m => exact memRead8_traced _ s

theorem operand16_traced (o : Operand16) (s : State) : Traced s (operand16 o s).2 := by
  cases o with
  | imm v => exact .refl s
  | mem m => exact memRead16_traced _ s

theorem setAcc_traced (s : State) (r : Acc) (v : Byte) (f : CCR) :
    Traced s { s.setAcc r v with ccr := f } :=
  (Traced.refl s).regs (by simp) (by simp) (by simp)

theorem accOp_traced (op : Byte → Byte → CCR → Byte × CCR) (r : Acc) (o : Operand8) (s : State) :
    Traced s (accOp op r o s) :=
  (operand8_traced o s).trans (setAcc_traced _ r _ _)

theorem accTest_traced (op : Byte → Byte → CCR → Byte × CCR) (r : Acc) (o : Operand8) (s : State) :
    Traced s (accTest op r o s) :=
  (operand8_traced o s).regs rfl rfl rfl

theorem unaryAcc_traced (op : Byte → CCR → Byte × CCR) (r : Acc) (s : State) :
    Traced s (unaryAcc op r s) :=
  setAcc_traced s r _ _

theorem unaryMem_traced (op : Byte → CCR → Byte × CCR) (m : MemMode) (s : State) :
    Traced s (unaryMem op m s) :=
  ((memRead8_traced (ea m s) s).trans (memWrite8_traced (ea m s) _ _)).regs rfl rfl rfl

theorem testMem_traced (op : Byte → CCR → Byte × CCR) (m : MemMode) (s : State) :
    Traced s (testMem op m s) :=
  (memRead8_traced (ea m s) s).regs rfl rfl rfl

theorem store8_traced (v : Byte) (m : MemMode) (s : State) : Traced s (store8 v m s) :=
  (memWrite8_traced (ea m s) v s).regs rfl rfl rfl

theorem store16_traced (v : Word) (m : MemMode) (s : State) : Traced s (store16 v m s) :=
  (memWrite16_traced (ea m s) v s).regs rfl rfl rfl

theorem callTo_traced (target : Word) (s : State) : Traced s (callTo target s) :=
  (push16_traced s.pc s).regs rfl rfl rfl

theorem subD_traced (o : Operand16) (s : State) : Traced s (subD o s) :=
  (operand16_traced o s).regs rfl rfl rfl

theorem addD_traced (o : Operand16) (s : State) : Traced s (addD o s) :=
  (operand16_traced o s).regs rfl rfl rfl

theorem compareX_traced (o : Operand16) (s : State) : Traced s (compareX o s) :=
  (operand16_traced o s).regs rfl rfl rfl

theorem loadD_traced (o : Operand16) (s : State) : Traced s (loadD o s) :=
  (operand16_traced o s).regs rfl rfl rfl

theorem loadX_traced (o : Operand16) (s : State) : Traced s (loadX o s) :=
  (operand16_traced o s).regs rfl rfl rfl

theorem loadSP_traced (o : Operand16) (s : State) : Traced s (loadSP o s) :=
  (operand16_traced o s).regs rfl rfl rfl

/-! ### Instructions and the step -/

theorem branchIf_traced (cond : Bool) (rel : Byte) (s : State) : Traced s (branchIf cond rel s) :=
  (Traced.refl s).regs rfl rfl rfl

/-- Registers, flags and the count of draws written, and nothing else. -/
theorem regs_traced {s t : State} (hp : t.platform = s.platform) (hb : t.bus = s.bus)
    (hm : t.mem = s.mem) : Traced s t :=
  (Traced.refl s).regs hp hb hm

/-- Whatever an instruction does to memory, its recorded accesses say. -/
theorem exec_traced {i : Instr} {s t : State} (h : exec i s = .next t) : Traced s t := by
  cases i
  case pula => cases h; exact (pull8_traced s).regs rfl rfl rfl
  case pulb => cases h; exact (pull8_traced s).regs rfl rfl rfl
  case pulx => cases h; exact (pull16_traced s).regs rfl rfl rfl
  case rts => cases h; exact (pull16_traced s).regs rfl rfl rfl
  case wai => cases h; exact (stackAll_traced s).regs rfl rfl rfl
  case swi => cases h; exact (stackAll_traced s).trans (enterHandler_traced _ _)
  case daa => cases h; exact (unaryAcc_traced _ _ { s with draws := s.draws + 1 }).from rfl rfl rfl
  all_goals
    simp only [exec] at h
    injection h with h
    subst h
    with_reducible
      first
      | exact accOp_traced _ _ _ _
      | exact accTest_traced _ _ _ _
      | exact unaryMem_traced _ _ _
      | exact unaryAcc_traced _ _ _
      | exact testMem_traced _ _ _
      | exact store8_traced _ _ _
      | exact store16_traced _ _ _
      | exact callTo_traced _ _
      | exact branchIf_traced _ _ _
      | exact subD_traced _ _
      | exact addD_traced _ _
      | exact compareX_traced _ _
      | exact loadD_traced _ _
      | exact loadX_traced _ _
      | exact loadSP_traced _ _
      | exact returnFromException_traced _
      | exact push8_traced _ _
      | exact push16_traced _ _
      | exact Traced.refl _
      | exact regs_traced rfl rfl rfl

theorem fetch8_traced (s : State) : Traced s (fetch8 s).2 :=
  (memRead8_traced s.pc s).regs rfl rfl rfl

theorem fetchBytes_traced (n : Nat) (s : State) : Traced s (fetchBytes n s).2 := by
  induction n generalizing s with
  | zero => exact .refl s
  | succ k ih => exact (fetch8_traced s).trans (ih _)

theorem fetchInstr_traced {s t : State} {i : Instr} (h : fetchInstr s = .ok (i, t)) : Traced s t := by
  unfold fetchInstr at h
  dsimp only at h
  split at h
  · cases h
  · split at h
    · simp only [Except.ok.injEq, Prod.mk.injEq] at h
      exact h.2 ▸ (fetch8_traced s).trans (fetchBytes_traced _ _)
    · cases h

/-- The accesses a boundary without reset records say everything it does to memory. -/
theorem runBoundary_traced {asserted : List SourceName} {s t : State}
    (h : runBoundary asserted s = .next t) : Traced s t := by
  obtain ⟨-, ⟨src, -, rfl⟩ | ⟨-, -, rfl⟩ | ⟨-, -, i, u, hf, hx⟩⟩ := runBoundary_next h
  · exact takeException_traced _ s
  · exact .refl _
  · exact (fetchInstr_traced hf).trans (exec_traced hx)

/-- Accesses carried out again: the record grows by them, their writes have landed, and only the count of
draws changes beside. -/
theorem replay_eq (es : List Access) (s : State) :
    ∃ draws, replay es s =
      { s with mem := landed s.platform es s.mem, bus := s.bus ++ es, draws := draws } := by
  unfold replay
  induction es generalizing s with
  | nil => exact ⟨s.draws, by simp [landed]⟩
  | cons e rest ih =>
    obtain ⟨draws, h⟩ := ih (replayAccess s e)
    refine ⟨draws, ?_⟩
    rw [List.foldl_cons, h]
    cases e <;> simp [replayAccess, memWrite8, landed]

end Sys2Proof.Machine
end

