-- ==== Sys2Proof/Tests/Slice0.lean ====
section
/-! SUPPORT. Tests: the checks of WellFormed, the decoder on words written out from the table, one step of
one instruction on small states, interrupts, the wait and reset, and for every statement with hypotheses a
concrete state and operands that meet them. Expected results come from spec/95_test_vectors.md and the
examples of the instruction rules. -/

namespace Sys2Proof.Tests

open Sys2Proof Sys2Proof.Machine

/-! ### WellFormed: an ill-formed operand for each check, refused -/

/-- R83: 256 is no 8-bit immediate. -/
theorem test_wf_imm8 : immFits8 255 = true ∧ immFits8 256 = false := by decide

/-- R84: 65536 is no 16-bit immediate. -/
theorem test_wf_imm16 : immFits16 65535 = true ∧ immFits16 65536 = false := by decide

/-- R98: `LDAA $40` is direct, `LDAA $0140` is not. -/
theorem test_wf_dir : dirReaches 0x00FF = true ∧ dirReaches 0x0140 = false := by decide

/-- R98: an indexed offset is 0 to 255. -/
theorem test_wf_offset :
    offsetFits 0 = true ∧ offsetFits 255 = true ∧ offsetFits (-1) = false ∧ offsetFits 256 = false := by
  decide

/-- R98: a branch reaches -128 to 127 from the following instruction, and no further. -/
theorem test_wf_branch :
    branchReaches 0x1000 0x1081 = true ∧ branchReaches 0x1000 0x1082 = false ∧
    branchReaches 0x1000 0x0F82 = true ∧ branchReaches 0x1000 0x0F81 = false := by
  decide

/-- R98: `BRA *` is `20 FE`; a target out of reach has no offset. -/
theorem test_rel_offset :
    relOffset 0x1000 0x1000 = some 0xFE ∧ relOffset 0x1000 0x1012 = some 0x10 ∧
    relOffset 0x1000 0x1082 = none := by
  decide

/-! ### Helpers -/

/-- Whether every byte string decodes to its instruction with nothing left over. -/
def decodesAll (l : List (List Byte × Instr)) : Bool :=
  l.all fun p =>
    match decode p.1 with
    | .ok (i, rest) => decide (i = p.2) && rest.isEmpty
    | .error _ => false

/-- Memory that holds these bytes. -/
def memory (cells : List (Nat × Nat)) : Memory :=
  cells.foldl (fun m c => m.write c.1 (BitVec.ofNat 8 c.2)) []

/-- A machine with these registers and this memory, all of it storage. -/
def cpu (a b x sp pc ccr : Nat) (cells : List (Nat × Nat)) : State :=
  { State.reset with
    a := BitVec.ofNat 8 a, b := BitVec.ofNat 8 b, x := BitVec.ofNat 16 x, sp := BitVec.ofNat 16 sp
    pc := BitVec.ofNat 16 pc, ccr := CCR.ofByte (BitVec.ofNat 8 ccr), mem := memory cells }

/-- The registers but CCR, and the bytes named. -/
def holds (a b x sp pc : Nat) (cells : List (Nat × Nat)) (t : State) : Bool :=
  t.a.toNat == a && t.b.toNat == b && t.x.toNat == x && t.sp.toNat == sp && t.pc.toNat == pc
    && cells.all (fun c => (t.mem.read c.1).toNat == c.2)

/-- The registers, CCR as a byte, and the bytes named. -/
def after (a b x sp pc ccr : Nat) (cells : List (Nat × Nat)) (t : State) : Bool :=
  holds a b x sp pc cells t && t.ccr.toByte.toNat == ccr

/-- The same with V left open. -/
def afterButV (a b x sp pc ccr : Nat) (cells : List (Nat × Nat)) (t : State) : Bool :=
  let f := CCR.ofByte (BitVec.ofNat 8 ccr)
  holds a b x sp pc cells t && t.ccr.h == f.h && t.ccr.i == f.i && t.ccr.n == f.n && t.ccr.z == f.z
    && t.ccr.c == f.c

/-- One step answers a next state of which `p` holds. -/
def nextIs (s : State) (p : State → Bool) : Bool :=
  match step s with
  | .next t => p t
  | .fault _ => false
  | .refused _ => false

/-- The address at which the step is refused, where it is. -/
def refusedAt (s : State) : Option Word :=
  match step s with
  | .next _ => none
  | .fault _ => none
  | .refused (.busActivityUnknown addr) => some addr
  | .refused (.notModelled _) => none

/-! ### Decoding: every row of TABLE 8, its word written out from R90 and R81 -/

theorem test_decode_0x : decodesAll
    [([0x01], .nop), ([0x04], .lsrd), ([0x05], .asld), ([0x06], .tap), ([0x07], .tpa),
     ([0x08], .inx), ([0x09], .dex), ([0x0A], .clv), ([0x0B], .sev), ([0x0C], .clc),
     ([0x0D], .sec), ([0x0E], .cli), ([0x0F], .sei)] = true := by
  decide

theorem test_decode_1x : decodesAll
    [([0x10], .sba), ([0x11], .cba), ([0x16], .tab), ([0x17], .tba), ([0x19], .daa),
     ([0x1B], .aba)] = true := by
  decide

theorem test_decode_2x : decodesAll
    [([0x20, 0x85], .bra 0x85), ([0x21, 0x85], .brn 0x85), ([0x22, 0x85], .bhi 0x85),
     ([0x23, 0x85], .bls 0x85), ([0x24, 0x85], .bcc 0x85), ([0x25, 0x85], .bcs 0x85),
     ([0x26, 0x85], .bne 0x85), ([0x27, 0x85], .beq 0x85), ([0x28, 0x85], .bvc 0x85),
     ([0x29, 0x85], .bvs 0x85), ([0x2A, 0x85], .bpl 0x85), ([0x2B, 0x85], .bmi 0x85),
     ([0x2C, 0x85], .bge 0x85), ([0x2D, 0x85], .blt 0x85), ([0x2E, 0x85], .bgt 0x85),
     ([0x2F, 0x85], .ble 0x85)] = true := by
  decide

theorem test_decode_3x : decodesAll
    [([0x30], .tsx), ([0x31], .ins), ([0x32], .pula), ([0x33], .pulb), ([0x34], .des),
     ([0x35], .txs), ([0x36], .psha), ([0x37], .pshb), ([0x38], .pulx), ([0x39], .rts),
     ([0x3A], .abx), ([0x3B], .rti), ([0x3C], .pshx), ([0x3D], .mul), ([0x3E], .wai),
     ([0x3F], .swi)] = true := by
  decide

theorem test_decode_4x : decodesAll
    [([0x40], .nega), ([0x43], .coma), ([0x44], .lsra), ([0x46], .rora), ([0x47], .asra),
     ([0x48], .asla), ([0x49], .rola), ([0x4A], .deca), ([0x4C], .inca), ([0x4D], .tsta),
     ([0x4F], .clra)] = true := by
  decide

theorem test_decode_5x : decodesAll
    [([0x50], .negb), ([0x53], .comb), ([0x54], .lsrb), ([0x56], .rorb), ([0x57], .asrb),
     ([0x58], .aslb), ([0x59], .rolb), ([0x5A], .decb), ([0x5C], .incb), ([0x5D], .tstb),
     ([0x5F], .clrb)] = true := by
  decide

theorem test_decode_6x : decodesAll
    [([0x60, 0x85], .negInd 0x85), ([0x63, 0x85], .comInd 0x85), ([0x64, 0x85], .lsrInd 0x85),
     ([0x66, 0x85], .rorInd 0x85), ([0x67, 0x85], .asrInd 0x85), ([0x68, 0x85], .aslInd 0x85),
     ([0x69, 0x85], .rolInd 0x85), ([0x6A, 0x85], .decInd 0x85), ([0x6C, 0x85], .incInd 0x85),
     ([0x6D, 0x85], .tstInd 0x85), ([0x6E, 0x85], .jmpInd 0x85), ([0x6F, 0x85], .clrInd 0x85)] = true := by
  decide

theorem test_decode_7x : decodesAll
    [([0x70, 0x12, 0x34], .negExt 0x1234), ([0x73, 0x12, 0x34], .comExt 0x1234),
     ([0x74, 0x12, 0x34], .lsrExt 0x1234), ([0x76, 0x12, 0x34], .rorExt 0x1234),
     ([0x77, 0x12, 0x34], .asrExt 0x1234), ([0x78, 0x12, 0x34], .aslExt 0x1234),
     ([0x79, 0x12, 0x34], .rolExt 0x1234), ([0x7A, 0x12, 0x34], .decExt 0x1234),
     ([0x7C, 0x12, 0x34], .incExt 0x1234), ([0x7D, 0x12, 0x34], .tstExt 0x1234),
     ([0x7E, 0x12, 0x34], .jmpExt 0x1234), ([0x7F, 0x12, 0x34], .clrExt 0x1234)] = true := by
  decide

theorem test_decode_8x : decodesAll
    [([0x80, 0x85], .subaImm 0x85), ([0x81, 0x85], .cmpaImm 0x85), ([0x82, 0x85], .sbcaImm 0x85),
     ([0x83, 0x12, 0x34], .subdImm 0x1234), ([0x84, 0x85], .andaImm 0x85),
     ([0x85, 0x85], .bitaImm 0x85), ([0x86, 0x85], .ldaaImm 0x85), ([0x88, 0x85], .eoraImm 0x85),
     ([0x89, 0x85], .adcaImm 0x85), ([0x8A, 0x85], .oraaImm 0x85), ([0x8B, 0x85], .addaImm 0x85),
     ([0x8C, 0x12, 0x34], .cpxImm 0x1234), ([0x8D, 0x85], .bsr 0x85),
     ([0x8E, 0x12, 0x34], .ldsImm 0x1234)] = true := by
  decide

theorem test_decode_9x : decodesAll
    [([0x90, 0x85], .subaDir 0x85), ([0x91, 0x85], .cmpaDir 0x85), ([0x92, 0x85], .sbcaDir 0x85),
     ([0x93, 0x85], .subdDir 0x85), ([0x94, 0x85], .andaDir 0x85), ([0x95, 0x85], .bitaDir 0x85),
     ([0x96, 0x85], .ldaaDir 0x85), ([0x97, 0x85], .staaDir 0x85), ([0x98, 0x85], .eoraDir 0x85),
     ([0x99, 0x85], .adcaDir 0x85), ([0x9A, 0x85], .oraaDir 0x85), ([0x9B, 0x85], .addaDir 0x85),
     ([0x9C, 0x85], .cpxDir 0x85), ([0x9D, 0x85], .jsrDir 0x85), ([0x9E, 0x85], .ldsDir 0x85),
     ([0x9F, 0x85], .stsDir 0x85)] = true := by
  decide

theorem test_decode_Ax : decodesAll
    [([0xA0, 0x85], .subaInd 0x85), ([0xA1, 0x85], .cmpaInd 0x85), ([0xA2, 0x85], .sbcaInd 0x85),
     ([0xA3, 0x85], .subdInd 0x85), ([0xA4, 0x85], .andaInd 0x85), ([0xA5, 0x85], .bitaInd 0x85),
     ([0xA6, 0x85], .ldaaInd 0x85), ([0xA7, 0x85], .staaInd 0x85), ([0xA8, 0x85], .eoraInd 0x85),
     ([0xA9, 0x85], .adcaInd 0x85), ([0xAA, 0x85], .oraaInd 0x85), ([0xAB, 0x85], .addaInd 0x85),
     ([0xAC, 0x85], .cpxInd 0x85), ([0xAD, 0x85], .jsrInd 0x85), ([0xAE, 0x85], .ldsInd 0x85),
     ([0xAF, 0x85], .stsInd 0x85)] = true := by
  decide

theorem test_decode_Bx : decodesAll
    [([0xB0, 0x12, 0x34], .subaExt 0x1234), ([0xB1, 0x12, 0x34], .cmpaExt 0x1234),
     ([0xB2, 0x12, 0x34], .sbcaExt 0x1234), ([0xB3, 0x12, 0x34], .subdExt 0x1234),
     ([0xB4, 0x12, 0x34], .andaExt 0x1234), ([0xB5, 0x12, 0x34], .bitaExt 0x1234),
     ([0xB6, 0x12, 0x34], .ldaaExt 0x1234), ([0xB7, 0x12, 0x34], .staaExt 0x1234),
     ([0xB8, 0x12, 0x34], .eoraExt 0x1234), ([0xB9, 0x12, 0x34], .adcaExt 0x1234),
     ([0xBA, 0x12, 0x34], .oraaExt 0x1234), ([0xBB, 0x12, 0x34], .addaExt 0x1234),
     ([0xBC, 0x12, 0x34], .cpxExt 0x1234), ([0xBD, 0x12, 0x34], .jsrExt 0x1234),
     ([0xBE, 0x12, 0x34], .ldsExt 0x1234), ([0xBF, 0x12, 0x34], .stsExt 0x1234)] = true := by
  decide

theorem test_decode_Cx : decodesAll
    [([0xC0, 0x85], .subbImm 0x85), ([0xC1, 0x85], .cmpbImm 0x85), ([0xC2, 0x85], .sbcbImm 0x85),
     ([0xC3, 0x12, 0x34], .adddImm 0x1234), ([0xC4, 0x85], .andbImm 0x85),
     ([0xC5, 0x85], .bitbImm 0x85), ([0xC6, 0x85], .ldabImm 0x85), ([0xC8, 0x85], .eorbImm 0x85),
     ([0xC9, 0x85], .adcbImm 0x85), ([0xCA, 0x85], .orabImm 0x85), ([0xCB, 0x85], .addbImm 0x85),
     ([0xCC, 0x12, 0x34], .lddImm 0x1234), ([0xCE, 0x12, 0x34], .ldxImm 0x1234)] = true := by
  decide

theorem test_decode_Dx : decodesAll
    [([0xD0, 0x85], .subbDir 0x85), ([0xD1, 0x85], .cmpbDir 0x85), ([0xD2, 0x85], .sbcbDir 0x85),
     ([0xD3, 0x85], .adddDir 0x85), ([0xD4, 0x85], .andbDir 0x85), ([0xD5, 0x85], .bitbDir 0x85),
     ([0xD6, 0x85], .ldabDir 0x85), ([0xD7, 0x85], .stabDir 0x85), ([0xD8, 0x85], .eorbDir 0x85),
     ([0xD9, 0x85], .adcbDir 0x85), ([0xDA, 0x85], .orabDir 0x85), ([0xDB, 0x85], .addbDir 0x85),
     ([0xDC, 0x85], .lddDir 0x85), ([0xDD, 0x85], .stdDir 0x85), ([0xDE, 0x85], .ldxDir 0x85),
     ([0xDF, 0x85], .stxDir 0x85)] = true := by
  decide

theorem test_decode_Ex : decodesAll
    [([0xE0, 0x85], .subbInd 0x85), ([0xE1, 0x85], .cmpbInd 0x85), ([0xE2, 0x85], .sbcbInd 0x85),
     ([0xE3, 0x85], .adddInd 0x85), ([0xE4, 0x85], .andbInd 0x85), ([0xE5, 0x85], .bitbInd 0x85),
     ([0xE6, 0x85], .ldabInd 0x85), ([0xE7, 0x85], .stabInd 0x85), ([0xE8, 0x85], .eorbInd 0x85),
     ([0xE9, 0x85], .adcbInd 0x85), ([0xEA, 0x85], .orabInd 0x85), ([0xEB, 0x85], .addbInd 0x85),
     ([0xEC, 0x85], .lddInd 0x85), ([0xED, 0x85], .stdInd 0x85), ([0xEE, 0x85], .ldxInd 0x85),
     ([0xEF, 0x85], .stxInd 0x85)] = true := by
  decide

theorem test_decode_Fx : decodesAll
    [([0xF0, 0x12, 0x34], .subbExt 0x1234), ([0xF1, 0x12, 0x34], .cmpbExt 0x1234),
     ([0xF2, 0x12, 0x34], .sbcbExt 0x1234), ([0xF3, 0x12, 0x34], .adddExt 0x1234),
     ([0xF4, 0x12, 0x34], .andbExt 0x1234), ([0xF5, 0x12, 0x34], .bitbExt 0x1234),
     ([0xF6, 0x12, 0x34], .ldabExt 0x1234), ([0xF7, 0x12, 0x34], .stabExt 0x1234),
     ([0xF8, 0x12, 0x34], .eorbExt 0x1234), ([0xF9, 0x12, 0x34], .adcbExt 0x1234),
     ([0xFA, 0x12, 0x34], .orabExt 0x1234), ([0xFB, 0x12, 0x34], .addbExt 0x1234),
     ([0xFC, 0x12, 0x34], .lddExt 0x1234), ([0xFD, 0x12, 0x34], .stdExt 0x1234),
     ([0xFE, 0x12, 0x34], .ldxExt 0x1234), ([0xFF, 0x12, 0x34], .stxExt 0x1234)] = true := by
  decide

/-! ### One step of one instruction, a vector of spec/95_test_vectors.md (L2) for each mnemonic.
Before: A, B, X, SP, PC, CCR and memory; after: the same registers, and the bytes named. -/

/-- `NOP` -/
theorem test_nop : nextIs (cpu 0x12 0x34 0x5678 0x01FF 0x1000 0xFF [(0x1000, 0x01)])
    (after 0x12 0x34 0x5678 0x01FF 0x1001 0xFF []) = true := by
  decide

/-- `LSRD` -/
theorem test_lsrd : nextIs (cpu 0x00 0x01 0x0000 0x0000 0x1000 0xC0 [(0x1000, 0x04)])
    (after 0x00 0x00 0x0000 0x0000 0x1001 0xC7 []) = true := by
  decide

/-- `ASLD` -/
theorem test_asld : nextIs (cpu 0x80 0x00 0x0000 0x0000 0x1000 0xC0 [(0x1000, 0x05)])
    (after 0x00 0x00 0x0000 0x0000 0x1001 0xC7 []) = true := by
  decide

/-- `TAP` -/
theorem test_tap : nextIs (cpu 0x00 0x00 0x0000 0x0000 0x1000 0xFF [(0x1000, 0x06)])
    (after 0x00 0x00 0x0000 0x0000 0x1001 0xC0 []) = true := by
  decide

/-- `TPA` -/
theorem test_tpa : nextIs (cpu 0x00 0x00 0x0000 0x0000 0x1000 0xC0 [(0x1000, 0x07)])
    (after 0xC0 0x00 0x0000 0x0000 0x1001 0xC0 []) = true := by
  decide

/-- `INX` -/
theorem test_inx : nextIs (cpu 0x00 0x00 0xFFFF 0x0000 0x1000 0xC8 [(0x1000, 0x08)])
    (after 0x00 0x00 0x0000 0x0000 0x1001 0xCC []) = true := by
  decide

/-- `DEX` -/
theorem test_dex : nextIs (cpu 0x00 0x00 0x0001 0x0000 0x1000 0xC0 [(0x1000, 0x09)])
    (after 0x00 0x00 0x0000 0x0000 0x1001 0xC4 []) = true := by
  decide

/-- `CLV` -/
theorem test_clv : nextIs (cpu 0x00 0x00 0x0000 0x0000 0x1000 0xC2 [(0x1000, 0x0A)])
    (after 0x00 0x00 0x0000 0x0000 0x1001 0xC0 []) = true := by
  decide

/-- `SEV` -/
theorem test_sev : nextIs (cpu 0x00 0x00 0x0000 0x0000 0x1000 0xFD [(0x1000, 0x0B)])
    (after 0x00 0x00 0x0000 0x0000 0x1001 0xFF []) = true := by
  decide

/-- `CLC` -/
theorem test_clc : nextIs (cpu 0x00 0x00 0x0000 0x0000 0x1000 0xC1 [(0x1000, 0x0C)])
    (after 0x00 0x00 0x0000 0x0000 0x1001 0xC0 []) = true := by
  decide

/-- `SEC` -/
theorem test_sec : nextIs (cpu 0x00 0x00 0x0000 0x0000 0x1000 0xFE [(0x1000, 0x0D)])
    (after 0x00 0x00 0x0000 0x0000 0x1001 0xFF []) = true := by
  decide

/-- `CLI` -/
theorem test_cli : nextIs (cpu 0x00 0x00 0x0000 0x0000 0x1000 0xD0 [(0x1000, 0x0E)])
    (after 0x00 0x00 0x0000 0x0000 0x1001 0xC0 []) = true := by
  decide

/-- `SEI` -/
theorem test_sei : nextIs (cpu 0x00 0x00 0x0000 0x0000 0x1000 0xEF [(0x1000, 0x0F)])
    (after 0x00 0x00 0x0000 0x0000 0x1001 0xFF []) = true := by
  decide

/-- `SBA` -/
theorem test_sba : nextIs (cpu 0x42 0x42 0x0000 0x0000 0x1000 0xC1 [(0x1000, 0x10)])
    (after 0x00 0x42 0x0000 0x0000 0x1001 0xC4 []) = true := by
  decide

/-- `CBA` -/
theorem test_cba : nextIs (cpu 0x7F 0xFF 0x0000 0x0000 0x1000 0xC0 [(0x1000, 0x11)])
    (after 0x7F 0xFF 0x0000 0x0000 0x1001 0xCB []) = true := by
  decide

/-- `TAB` -/
theorem test_tab : nextIs (cpu 0x00 0x55 0x0000 0x0000 0x1000 0xCA [(0x1000, 0x16)])
    (after 0x00 0x00 0x0000 0x0000 0x1001 0xC4 []) = true := by
  decide

/-- `TBA` -/
theorem test_tba : nextIs (cpu 0x00 0x7F 0x0000 0x0000 0x1000 0xCF [(0x1000, 0x17)])
    (after 0x7F 0x7F 0x0000 0x0000 0x1001 0xC1 []) = true := by
  decide

/-- `ABA` -/
theorem test_aba : nextIs (cpu 0xFF 0x01 0x0000 0x0000 0x1000 0xC0 [(0x1000, 0x1B)])
    (after 0x00 0x01 0x0000 0x0000 0x1001 0xE5 []) = true := by
  decide

/-- `DAA` -/
theorem test_daa : nextIs (cpu 0x9A 0x00 0x0000 0x0000 0x1000 0xC0 [(0x1000, 0x19)])
    (afterButV 0x00 0x00 0x0000 0x0000 0x1001 0xC5 []) = true := by
  decide

/-- `BRA $1012` -/
theorem test_bra : nextIs (cpu 0x00 0x00 0x0000 0x0000 0x1000 0xC0 [(0x1000, 0x20), (0x1001, 0x10)])
    (after 0x00 0x00 0x0000 0x0000 0x1012 0xC0 []) = true := by
  decide

/-- `BRN $1012` -/
theorem test_brn : nextIs (cpu 0x00 0x00 0x0000 0x0000 0x1000 0xFF [(0x1000, 0x21), (0x1001, 0x10)])
    (after 0x00 0x00 0x0000 0x0000 0x1002 0xFF []) = true := by
  decide

/-- `BHI $1012` -/
theorem test_bhi : nextIs (cpu 0x00 0x00 0x0000 0x0000 0x1000 0xC0 [(0x1000, 0x22), (0x1001, 0x10)])
    (after 0x00 0x00 0x0000 0x0000 0x1012 0xC0 []) = true := by
  decide

/-- `BLS $1012` -/
theorem test_bls : nextIs (cpu 0x00 0x00 0x0000 0x0000 0x1000 0xC0 [(0x1000, 0x23), (0x1001, 0x10)])
    (after 0x00 0x00 0x0000 0x0000 0x1002 0xC0 []) = true := by
  decide

/-- `BCC $1012` -/
theorem test_bcc : nextIs (cpu 0x00 0x00 0x0000 0x0000 0x1000 0xC0 [(0x1000, 0x24), (0x1001, 0x10)])
    (after 0x00 0x00 0x0000 0x0000 0x1012 0xC0 []) = true := by
  decide

/-- `BCS $1012` -/
theorem test_bcs : nextIs (cpu 0x00 0x00 0x0000 0x0000 0x1000 0xC1 [(0x1000, 0x25), (0x1001, 0x10)])
    (after 0x00 0x00 0x0000 0x0000 0x1012 0xC1 []) = true := by
  decide

/-- `BNE $1012` -/
theorem test_bne : nextIs (cpu 0x00 0x00 0x0000 0x0000 0x1000 0xC0 [(0x1000, 0x26), (0x1001, 0x10)])
    (after 0x00 0x00 0x0000 0x0000 0x1012 0xC0 []) = true := by
  decide

/-- `BEQ $1012` -/
theorem test_beq : nextIs (cpu 0x00 0x00 0x0000 0x0000 0x1000 0xC4 [(0x1000, 0x27), (0x1001, 0x10)])
    (after 0x00 0x00 0x0000 0x0000 0x1012 0xC4 []) = true := by
  decide

/-- `BVC $1012` -/
theorem test_bvc : nextIs (cpu 0x00 0x00 0x0000 0x0000 0x1000 0xC0 [(0x1000, 0x28), (0x1001, 0x10)])
    (after 0x00 0x00 0x0000 0x0000 0x1012 0xC0 []) = true := by
  decide

/-- `BVS $1012` -/
theorem test_bvs : nextIs (cpu 0x00 0x00 0x0000 0x0000 0x1000 0xC2 [(0x1000, 0x29), (0x1001, 0x10)])
    (after 0x00 0x00 0x0000 0x0000 0x1012 0xC2 []) = true := by
  decide

/-- `BPL $1012` -/
theorem test_bpl : nextIs (cpu 0x00 0x00 0x0000 0x0000 0x1000 0xC0 [(0x1000, 0x2A), (0x1001, 0x10)])
    (after 0x00 0x00 0x0000 0x0000 0x1012 0xC0 []) = true := by
  decide

/-- `BMI $1012` -/
theorem test_bmi : nextIs (cpu 0x00 0x00 0x0000 0x0000 0x1000 0xC8 [(0x1000, 0x2B), (0x1001, 0x10)])
    (after 0x00 0x00 0x0000 0x0000 0x1012 0xC8 []) = true := by
  decide

/-- `BGE $1012` -/
theorem test_bge : nextIs (cpu 0x00 0x00 0x0000 0x0000 0x1000 0xC0 [(0x1000, 0x2C), (0x1001, 0x10)])
    (after 0x00 0x00 0x0000 0x0000 0x1012 0xC0 []) = true := by
  decide

/-- `BLT $1012` -/
theorem test_blt : nextIs (cpu 0x00 0x00 0x0000 0x0000 0x1000 0xC8 [(0x1000, 0x2D), (0x1001, 0x10)])
    (after 0x00 0x00 0x0000 0x0000 0x1012 0xC8 []) = true := by
  decide

/-- `BGT $1012` -/
theorem test_bgt : nextIs (cpu 0x00 0x00 0x0000 0x0000 0x1000 0xC0 [(0x1000, 0x2E), (0x1001, 0x10)])
    (after 0x00 0x00 0x0000 0x0000 0x1012 0xC0 []) = true := by
  decide

/-- `BLE $1012` -/
theorem test_ble : nextIs (cpu 0x00 0x00 0x0000 0x0000 0x1000 0xC4 [(0x1000, 0x2F), (0x1001, 0x10)])
    (after 0x00 0x00 0x0000 0x0000 0x1012 0xC4 []) = true := by
  decide

/-- `TSX` -/
theorem test_tsx : nextIs (cpu 0x00 0x00 0x0000 0x00FC 0x1000 0xCF [(0x1000, 0x30)])
    (after 0x00 0x00 0x00FD 0x00FC 0x1001 0xCF []) = true := by
  decide

/-- `INS` -/
theorem test_ins : nextIs (cpu 0x00 0x00 0x0000 0xFFFF 0x1000 0xC0 [(0x1000, 0x31)])
    (after 0x00 0x00 0x0000 0x0000 0x1001 0xC0 []) = true := by
  decide

/-- `PULA` -/
theorem test_pula : nextIs (cpu 0x00 0x00 0x0000 0x00FE 0x1000 0xCF [(0x00FF, 0x80), (0x1000, 0x32)])
    (after 0x80 0x00 0x0000 0x00FF 0x1001 0xCF [(0x00FF, 0x80)]) = true := by
  decide

/-- `PULB` -/
theorem test_pulb : nextIs (cpu 0x00 0x00 0x0000 0x00FE 0x1000 0xC0 [(0x00FF, 0x42), (0x1000, 0x33)])
    (after 0x00 0x42 0x0000 0x00FF 0x1001 0xC0 []) = true := by
  decide

/-- `DES` -/
theorem test_des : nextIs (cpu 0x00 0x00 0x0000 0x0000 0x1000 0xC4 [(0x1000, 0x34)])
    (after 0x00 0x00 0x0000 0xFFFF 0x1001 0xC4 []) = true := by
  decide

/-- `TXS` -/
theorem test_txs : nextIs (cpu 0x00 0x00 0x0100 0x0000 0x1000 0xC0 [(0x1000, 0x35)])
    (after 0x00 0x00 0x0100 0x00FF 0x1001 0xC0 []) = true := by
  decide

/-- `PSHA` -/
theorem test_psha : nextIs (cpu 0x5A 0x00 0x0000 0x00FF 0x1000 0xC0 [(0x1000, 0x36)])
    (after 0x5A 0x00 0x0000 0x00FE 0x1001 0xC0 [(0x00FF, 0x5A)]) = true := by
  decide

/-- `PSHB` -/
theorem test_pshb : nextIs (cpu 0x00 0xA5 0x0000 0x00FF 0x1000 0xC0 [(0x1000, 0x37)])
    (after 0x00 0xA5 0x0000 0x00FE 0x1001 0xC0 [(0x00FF, 0xA5)]) = true := by
  decide

/-- `PULX` -/
theorem test_pulx : nextIs (cpu 0x00 0x00 0x0000 0x00FD 0x1000 0xC0 [(0x00FE, 0x12), (0x00FF, 0x34), (0x1000, 0x38)])
    (after 0x00 0x00 0x1234 0x00FF 0x1001 0xC0 []) = true := by
  decide

/-- `RTS` -/
theorem test_rts : nextIs (cpu 0x00 0x00 0x0000 0x00FD 0x1000 0xC0 [(0x00FE, 0x20), (0x00FF, 0x08), (0x1000, 0x39)])
    (after 0x00 0x00 0x0000 0x00FF 0x2008 0xC0 []) = true := by
  decide

/-- `ABX` -/
theorem test_abx : nextIs (cpu 0x00 0xFF 0x1000 0x0000 0x1000 0xC0 [(0x1000, 0x3A)])
    (after 0x00 0xFF 0x10FF 0x0000 0x1001 0xC0 []) = true := by
  decide

/-- `RTI` -/
theorem test_rti : nextIs (cpu 0x00 0x00 0x0000 0x00F8 0x1000 0xD0 [(0x00F9, 0xFF), (0x00FA, 0x22), (0x00FB, 0x11), (0x00FC, 0x33), (0x00FD, 0x44), (0x00FE, 0x20), (0x00FF, 0x10), (0x1000, 0x3B)])
    (after 0x11 0x22 0x3344 0x00FF 0x2010 0xFF []) = true := by
  decide

/-- `PSHX` -/
theorem test_pshx : nextIs (cpu 0x00 0x00 0x1234 0x00FF 0x1000 0xC0 [(0x1000, 0x3C)])
    (after 0x00 0x00 0x1234 0x00FD 0x1001 0xC0 [(0x00FE, 0x12), (0x00FF, 0x34)]) = true := by
  decide

/-- `MUL` -/
theorem test_mul : nextIs (cpu 0xFF 0xFF 0x0000 0x0000 0x1000 0xCF [(0x1000, 0x3D)])
    (after 0xFE 0x01 0x0000 0x0000 0x1001 0xCE []) = true := by
  decide

/-- `WAI` -/
theorem test_wai : nextIs (cpu 0x11 0x22 0x3344 0x00FF 0x1000 0xC1 [(0x1000, 0x3E)])
    (fun t => t.waiting && after 0x11 0x22 0x3344 0x00F8 0x1001 0xC1 [(0x00F9, 0xC1), (0x00FA, 0x22), (0x00FB, 0x11), (0x00FC, 0x33), (0x00FD, 0x44), (0x00FE, 0x10), (0x00FF, 0x01)] t) = true := by
  decide

/-- `SWI` -/
theorem test_swi : nextIs (cpu 0x11 0x22 0x3344 0x00FF 0x1000 0xC1 [(0x1000, 0x3F), (0xFFFA, 0x20), (0xFFFB, 0x00)])
    (after 0x11 0x22 0x3344 0x00F8 0x2000 0xD1 [(0x00F9, 0xC1), (0x00FA, 0x22), (0x00FB, 0x11), (0x00FC, 0x33), (0x00FD, 0x44), (0x00FE, 0x10), (0x00FF, 0x01)]) = true := by
  decide

/-- `NEGA` -/
theorem test_nega : nextIs (cpu 0x00 0x00 0x0000 0x0000 0x1000 0xCB [(0x1000, 0x40)])
    (after 0x00 0x00 0x0000 0x0000 0x1001 0xC4 []) = true := by
  decide

/-- `NEGB` -/
theorem test_negb : nextIs (cpu 0x00 0x01 0x0000 0x0000 0x1000 0xC0 [(0x1000, 0x50)])
    (after 0x00 0xFF 0x0000 0x0000 0x1001 0xC9 []) = true := by
  decide

/-- `NEG $10,X` -/
theorem test_neg : nextIs (cpu 0x00 0x00 0x0100 0x0000 0x1000 0xC0 [(0x0110, 0x01), (0x1000, 0x60), (0x1001, 0x10)])
    (after 0x00 0x00 0x0100 0x0000 0x1002 0xC9 [(0x0110, 0xFF)]) = true := by
  decide

/-- `COMA` -/
theorem test_coma : nextIs (cpu 0xFF 0x00 0x0000 0x0000 0x1000 0xC2 [(0x1000, 0x43)])
    (after 0x00 0x00 0x0000 0x0000 0x1001 0xC5 []) = true := by
  decide

/-- `COMB` -/
theorem test_comb : nextIs (cpu 0x00 0xFF 0x0000 0x0000 0x1000 0xC2 [(0x1000, 0x53)])
    (after 0x00 0x00 0x0000 0x0000 0x1001 0xC5 []) = true := by
  decide

/-- `COM $10,X` -/
theorem test_com : nextIs (cpu 0x00 0x00 0x0100 0x0000 0x1000 0xC2 [(0x0110, 0xFF), (0x1000, 0x63), (0x1001, 0x10)])
    (after 0x00 0x00 0x0100 0x0000 0x1002 0xC5 [(0x0110, 0x00)]) = true := by
  decide

/-- `LSRA` -/
theorem test_lsra : nextIs (cpu 0x01 0x00 0x0000 0x0000 0x1000 0xC8 [(0x1000, 0x44)])
    (after 0x00 0x00 0x0000 0x0000 0x1001 0xC7 []) = true := by
  decide

/-- `LSRB` -/
theorem test_lsrb : nextIs (cpu 0x00 0x01 0x0000 0x0000 0x1000 0xC8 [(0x1000, 0x54)])
    (after 0x00 0x00 0x0000 0x0000 0x1001 0xC7 []) = true := by
  decide

/-- `LSR $10,X` -/
theorem test_lsr : nextIs (cpu 0x00 0x00 0x0100 0x0000 0x1000 0xC8 [(0x0110, 0x01), (0x1000, 0x64), (0x1001, 0x10)])
    (after 0x00 0x00 0x0100 0x0000 0x1002 0xC7 [(0x0110, 0x00)]) = true := by
  decide

/-- `RORA` -/
theorem test_rora : nextIs (cpu 0x00 0x00 0x0000 0x0000 0x1000 0xC1 [(0x1000, 0x46)])
    (after 0x80 0x00 0x0000 0x0000 0x1001 0xCA []) = true := by
  decide

/-- `RORB` -/
theorem test_rorb : nextIs (cpu 0x00 0x01 0x0000 0x0000 0x1000 0xC0 [(0x1000, 0x56)])
    (after 0x00 0x00 0x0000 0x0000 0x1001 0xC7 []) = true := by
  decide

/-- `ROR $10,X` -/
theorem test_ror : nextIs (cpu 0x00 0x00 0x0100 0x0000 0x1000 0xC0 [(0x0110, 0x01), (0x1000, 0x66), (0x1001, 0x10)])
    (after 0x00 0x00 0x0100 0x0000 0x1002 0xC7 [(0x0110, 0x00)]) = true := by
  decide

/-- `ASRA` -/
theorem test_asra : nextIs (cpu 0x80 0x00 0x0000 0x0000 0x1000 0xC0 [(0x1000, 0x47)])
    (after 0xC0 0x00 0x0000 0x0000 0x1001 0xCA []) = true := by
  decide

/-- `ASRB` -/
theorem test_asrb : nextIs (cpu 0x00 0x80 0x0000 0x0000 0x1000 0xC0 [(0x1000, 0x57)])
    (after 0x00 0xC0 0x0000 0x0000 0x1001 0xCA []) = true := by
  decide

/-- `ASR $10,X` -/
theorem test_asr : nextIs (cpu 0x00 0x00 0x0100 0x0000 0x1000 0xC0 [(0x0110, 0x80), (0x1000, 0x67), (0x1001, 0x10)])
    (after 0x00 0x00 0x0100 0x0000 0x1002 0xCA [(0x0110, 0xC0)]) = true := by
  decide

/-- `ASLA` -/
theorem test_asla : nextIs (cpu 0x80 0x00 0x0000 0x0000 0x1000 0xC0 [(0x1000, 0x48)])
    (after 0x00 0x00 0x0000 0x0000 0x1001 0xC7 []) = true := by
  decide

/-- `ASLB` -/
theorem test_aslb : nextIs (cpu 0x00 0x80 0x0000 0x0000 0x1000 0xC0 [(0x1000, 0x58)])
    (after 0x00 0x00 0x0000 0x0000 0x1001 0xC7 []) = true := by
  decide

/-- `ASL $10,X` -/
theorem test_asl : nextIs (cpu 0x00 0x00 0x0100 0x0000 0x1000 0xC0 [(0x0110, 0x80), (0x1000, 0x68), (0x1001, 0x10)])
    (after 0x00 0x00 0x0100 0x0000 0x1002 0xC7 [(0x0110, 0x00)]) = true := by
  decide

/-- `ROLA` -/
theorem test_rola : nextIs (cpu 0x00 0x00 0x0000 0x0000 0x1000 0xC1 [(0x1000, 0x49)])
    (after 0x01 0x00 0x0000 0x0000 0x1001 0xC0 []) = true := by
  decide

/-- `ROLB` -/
theorem test_rolb : nextIs (cpu 0x00 0x80 0x0000 0x0000 0x1000 0xC0 [(0x1000, 0x59)])
    (after 0x00 0x00 0x0000 0x0000 0x1001 0xC7 []) = true := by
  decide

/-- `ROL $10,X` -/
theorem test_rol : nextIs (cpu 0x00 0x00 0x0100 0x0000 0x1000 0xC0 [(0x0110, 0x80), (0x1000, 0x69), (0x1001, 0x10)])
    (after 0x00 0x00 0x0100 0x0000 0x1002 0xC7 [(0x0110, 0x00)]) = true := by
  decide

/-- `DECA` -/
theorem test_deca : nextIs (cpu 0x00 0x00 0x0000 0x0000 0x1000 0xC1 [(0x1000, 0x4A)])
    (after 0xFF 0x00 0x0000 0x0000 0x1001 0xC9 []) = true := by
  decide

/-- `DECB` -/
theorem test_decb : nextIs (cpu 0x00 0x00 0x0000 0x0000 0x1000 0xC1 [(0x1000, 0x5A)])
    (after 0x00 0xFF 0x0000 0x0000 0x1001 0xC9 []) = true := by
  decide

/-- `DEC $10,X` -/
theorem test_dec : nextIs (cpu 0x00 0x00 0x0100 0x0000 0x1000 0xC1 [(0x0110, 0x00), (0x1000, 0x6A), (0x1001, 0x10)])
    (after 0x00 0x00 0x0100 0x0000 0x1002 0xC9 [(0x0110, 0xFF)]) = true := by
  decide

/-- `INCA` -/
theorem test_inca : nextIs (cpu 0x7F 0x00 0x0000 0x0000 0x1000 0xC1 [(0x1000, 0x4C)])
    (after 0x80 0x00 0x0000 0x0000 0x1001 0xCB []) = true := by
  decide

/-- `INCB` -/
theorem test_incb : nextIs (cpu 0x00 0xFF 0x0000 0x0000 0x1000 0xC0 [(0x1000, 0x5C)])
    (after 0x00 0x00 0x0000 0x0000 0x1001 0xC4 []) = true := by
  decide

/-- `INC $10,X` -/
theorem test_inc : nextIs (cpu 0x00 0x00 0x0100 0x0000 0x1000 0xC0 [(0x0110, 0xFF), (0x1000, 0x6C), (0x1001, 0x10)])
    (after 0x00 0x00 0x0100 0x0000 0x1002 0xC4 [(0x0110, 0x00)]) = true := by
  decide

/-- `TSTA` -/
theorem test_tsta : nextIs (cpu 0x00 0x00 0x0000 0x0000 0x1000 0xCB [(0x1000, 0x4D)])
    (after 0x00 0x00 0x0000 0x0000 0x1001 0xC4 []) = true := by
  decide

/-- `TSTB` -/
theorem test_tstb : nextIs (cpu 0x00 0x80 0x0000 0x0000 0x1000 0xC3 [(0x1000, 0x5D)])
    (after 0x00 0x80 0x0000 0x0000 0x1001 0xC8 []) = true := by
  decide

/-- `TST $10,X` -/
theorem test_tst : nextIs (cpu 0x00 0x00 0x0100 0x0000 0x1000 0xC3 [(0x0110, 0x80), (0x1000, 0x6D), (0x1001, 0x10)])
    (after 0x00 0x00 0x0100 0x0000 0x1002 0xC8 [(0x0110, 0x80)]) = true := by
  decide

/-- `CLRA` -/
theorem test_clra : nextIs (cpu 0x5A 0x00 0x0000 0x0000 0x1000 0xCB [(0x1000, 0x4F)])
    (after 0x00 0x00 0x0000 0x0000 0x1001 0xC4 []) = true := by
  decide

/-- `CLRB` -/
theorem test_clrb : nextIs (cpu 0x00 0x5A 0x0000 0x0000 0x1000 0xCB [(0x1000, 0x5F)])
    (after 0x00 0x00 0x0000 0x0000 0x1001 0xC4 []) = true := by
  decide

/-- `CLR $10,X` -/
theorem test_clr : nextIs (cpu 0x00 0x00 0x0100 0x0000 0x1000 0xCB [(0x0110, 0x5A), (0x1000, 0x6F), (0x1001, 0x10)])
    (after 0x00 0x00 0x0100 0x0000 0x1002 0xC4 [(0x0110, 0x00)]) = true := by
  decide

/-- `JMP $10,X` -/
theorem test_jmp : nextIs (cpu 0x00 0x00 0x2000 0x0000 0x1000 0xCF [(0x1000, 0x6E), (0x1001, 0x10)])
    (after 0x00 0x00 0x2000 0x0000 0x2010 0xCF []) = true := by
  decide

/-- `SUBA $1234` -/
theorem test_suba : nextIs (cpu 0x7F 0x00 0x0000 0x0000 0x1000 0xE0 [(0x1000, 0xB0), (0x1001, 0x12), (0x1002, 0x34), (0x1234, 0xFF)])
    (after 0x80 0x00 0x0000 0x0000 0x1003 0xEB []) = true := by
  decide

/-- `CMPA #$20` -/
theorem test_cmpa : nextIs (cpu 0x10 0x00 0x0000 0x0000 0x1000 0xC0 [(0x1000, 0x81), (0x1001, 0x20)])
    (after 0x10 0x00 0x0000 0x0000 0x1002 0xC9 []) = true := by
  decide

/-- `SBCA $40` -/
theorem test_sbca : nextIs (cpu 0x00 0x00 0x0000 0x0000 0x1000 0xC1 [(0x0040, 0x00), (0x1000, 0x92), (0x1001, 0x40)])
    (after 0xFF 0x00 0x0000 0x0000 0x1002 0xC9 []) = true := by
  decide

/-- `ANDA 5,X` -/
theorem test_anda : nextIs (cpu 0xFF 0x00 0x0200 0x0000 0x1000 0xC2 [(0x0205, 0x80), (0x1000, 0xA4), (0x1001, 0x05)])
    (after 0x80 0x00 0x0200 0x0000 0x1002 0xC8 []) = true := by
  decide

/-- `BITA #$F0` -/
theorem test_bita : nextIs (cpu 0x0F 0x00 0x0000 0x0000 0x1000 0xC2 [(0x1000, 0x85), (0x1001, 0xF0)])
    (after 0x0F 0x00 0x0000 0x0000 0x1002 0xC4 []) = true := by
  decide

/-- `LDAA $40` -/
theorem test_ldaa : nextIs (cpu 0xFF 0x00 0x0000 0x0000 0x1000 0xCA [(0x0040, 0x00), (0x1000, 0x96), (0x1001, 0x40)])
    (after 0x00 0x00 0x0000 0x0000 0x1002 0xC4 []) = true := by
  decide

/-- `EORA $40` -/
theorem test_eora : nextIs (cpu 0x5A 0x00 0x0000 0x0000 0x1000 0xC3 [(0x0040, 0x5A), (0x1000, 0x98), (0x1001, 0x40)])
    (after 0x00 0x00 0x0000 0x0000 0x1002 0xC5 []) = true := by
  decide

/-- `ADCA $40` -/
theorem test_adca : nextIs (cpu 0x7F 0x00 0x0000 0x0000 0x1000 0xC1 [(0x0040, 0x00), (0x1000, 0x99), (0x1001, 0x40)])
    (after 0x80 0x00 0x0000 0x0000 0x1002 0xEA []) = true := by
  decide

/-- `ORAA #$80` -/
theorem test_oraa : nextIs (cpu 0x01 0x00 0x0000 0x0000 0x1000 0xC2 [(0x1000, 0x8A), (0x1001, 0x80)])
    (after 0x81 0x00 0x0000 0x0000 0x1002 0xC8 []) = true := by
  decide

/-- `ADDA 5,X` -/
theorem test_adda : nextIs (cpu 0x80 0x00 0x0200 0x0000 0x1000 0xE0 [(0x0205, 0x80), (0x1000, 0xAB), (0x1001, 0x05)])
    (after 0x00 0x00 0x0200 0x0000 0x1002 0xC7 []) = true := by
  decide

/-- `STAA $40` -/
theorem test_staa : nextIs (cpu 0x00 0x00 0x0000 0x0000 0x1000 0xCB [(0x0040, 0xEE), (0x1000, 0x97), (0x1001, 0x40)])
    (after 0x00 0x00 0x0000 0x0000 0x1002 0xC5 [(0x0040, 0x00)]) = true := by
  decide

/-- `SUBD #$0001` -/
theorem test_subd : nextIs (cpu 0x00 0x00 0x0000 0x0000 0x1000 0xC0 [(0x1000, 0x83), (0x1001, 0x00), (0x1002, 0x01)])
    (after 0xFF 0xFF 0x0000 0x0000 0x1003 0xC9 []) = true := by
  decide

/-- `CPX #$1001` -/
theorem test_cpx : nextIs (cpu 0x00 0x00 0x1000 0x0000 0x1000 0xC0 [(0x1000, 0x8C), (0x1001, 0x10), (0x1002, 0x01)])
    (after 0x00 0x00 0x1000 0x0000 0x1003 0xC9 []) = true := by
  decide

/-- `BSR $1012` -/
theorem test_bsr : nextIs (cpu 0x00 0x00 0x0000 0x00FF 0x1000 0xCF [(0x1000, 0x8D), (0x1001, 0x10)])
    (after 0x00 0x00 0x0000 0x00FD 0x1012 0xCF [(0x00FE, 0x10), (0x00FF, 0x02)]) = true := by
  decide

/-- `JSR $40` -/
theorem test_jsr : nextIs (cpu 0x00 0x00 0x0000 0x00FF 0x1000 0xC0 [(0x1000, 0x9D), (0x1001, 0x40)])
    (after 0x00 0x00 0x0000 0x00FD 0x0040 0xC0 [(0x00FE, 0x10), (0x00FF, 0x02)]) = true := by
  decide

/-- `LDS #$80FF` -/
theorem test_lds : nextIs (cpu 0x00 0x00 0x0000 0x0000 0x1000 0xC3 [(0x1000, 0x8E), (0x1001, 0x80), (0x1002, 0xFF)])
    (after 0x00 0x00 0x0000 0x80FF 0x1003 0xC9 []) = true := by
  decide

/-- `STS $40` -/
theorem test_sts : nextIs (cpu 0x00 0x00 0x0000 0x01FF 0x1000 0xCB [(0x1000, 0x9F), (0x1001, 0x40)])
    (after 0x00 0x00 0x0000 0x01FF 0x1002 0xC1 [(0x0040, 0x01), (0x0041, 0xFF)]) = true := by
  decide

/-- `SUBB $1234` -/
theorem test_subb : nextIs (cpu 0x00 0x7F 0x0000 0x0000 0x1000 0xE0 [(0x1000, 0xF0), (0x1001, 0x12), (0x1002, 0x34), (0x1234, 0xFF)])
    (after 0x00 0x80 0x0000 0x0000 0x1003 0xEB []) = true := by
  decide

/-- `CMPB #$20` -/
theorem test_cmpb : nextIs (cpu 0x00 0x10 0x0000 0x0000 0x1000 0xC0 [(0x1000, 0xC1), (0x1001, 0x20)])
    (after 0x00 0x10 0x0000 0x0000 0x1002 0xC9 []) = true := by
  decide

/-- `SBCB $40` -/
theorem test_sbcb : nextIs (cpu 0x00 0x00 0x0000 0x0000 0x1000 0xC1 [(0x0040, 0x00), (0x1000, 0xD2), (0x1001, 0x40)])
    (after 0x00 0xFF 0x0000 0x0000 0x1002 0xC9 []) = true := by
  decide

/-- `ANDB 5,X` -/
theorem test_andb : nextIs (cpu 0x00 0xFF 0x0200 0x0000 0x1000 0xC2 [(0x0205, 0x80), (0x1000, 0xE4), (0x1001, 0x05)])
    (after 0x00 0x80 0x0200 0x0000 0x1002 0xC8 []) = true := by
  decide

/-- `BITB #$F0` -/
theorem test_bitb : nextIs (cpu 0x00 0x0F 0x0000 0x0000 0x1000 0xC2 [(0x1000, 0xC5), (0x1001, 0xF0)])
    (after 0x00 0x0F 0x0000 0x0000 0x1002 0xC4 []) = true := by
  decide

/-- `LDAB $40` -/
theorem test_ldab : nextIs (cpu 0x00 0xFF 0x0000 0x0000 0x1000 0xCA [(0x0040, 0x00), (0x1000, 0xD6), (0x1001, 0x40)])
    (after 0x00 0x00 0x0000 0x0000 0x1002 0xC4 []) = true := by
  decide

/-- `EORB $40` -/
theorem test_eorb : nextIs (cpu 0x00 0x5A 0x0000 0x0000 0x1000 0xC3 [(0x0040, 0x5A), (0x1000, 0xD8), (0x1001, 0x40)])
    (after 0x00 0x00 0x0000 0x0000 0x1002 0xC5 []) = true := by
  decide

/-- `ADCB $40` -/
theorem test_adcb : nextIs (cpu 0x00 0x7F 0x0000 0x0000 0x1000 0xC1 [(0x0040, 0x00), (0x1000, 0xD9), (0x1001, 0x40)])
    (after 0x00 0x80 0x0000 0x0000 0x1002 0xEA []) = true := by
  decide

/-- `ORAB #$80` -/
theorem test_orab : nextIs (cpu 0x00 0x01 0x0000 0x0000 0x1000 0xC2 [(0x1000, 0xCA), (0x1001, 0x80)])
    (after 0x00 0x81 0x0000 0x0000 0x1002 0xC8 []) = true := by
  decide

/-- `ADDB 5,X` -/
theorem test_addb : nextIs (cpu 0x00 0x80 0x0200 0x0000 0x1000 0xE0 [(0x0205, 0x80), (0x1000, 0xEB), (0x1001, 0x05)])
    (after 0x00 0x00 0x0200 0x0000 0x1002 0xC7 []) = true := by
  decide

/-- `STAB $40` -/
theorem test_stab : nextIs (cpu 0x00 0x00 0x0000 0x0000 0x1000 0xCB [(0x0040, 0xEE), (0x1000, 0xD7), (0x1001, 0x40)])
    (after 0x00 0x00 0x0000 0x0000 0x1002 0xC5 [(0x0040, 0x00)]) = true := by
  decide

/-- `ADDD #$0001` -/
theorem test_addd : nextIs (cpu 0xFF 0xFF 0x0000 0x0000 0x1000 0xC0 [(0x1000, 0xC3), (0x1001, 0x00), (0x1002, 0x01)])
    (after 0x00 0x00 0x0000 0x0000 0x1003 0xC5 []) = true := by
  decide

/-- `LDD #$8001` -/
theorem test_ldd : nextIs (cpu 0x00 0x00 0x0000 0x0000 0x1000 0xC3 [(0x1000, 0xCC), (0x1001, 0x80), (0x1002, 0x01)])
    (after 0x80 0x01 0x0000 0x0000 0x1003 0xC9 []) = true := by
  decide

/-- `STD $40` -/
theorem test_std : nextIs (cpu 0x12 0x34 0x0000 0x0000 0x1000 0xCB [(0x1000, 0xDD), (0x1001, 0x40)])
    (after 0x12 0x34 0x0000 0x0000 0x1002 0xC1 [(0x0040, 0x12), (0x0041, 0x34)]) = true := by
  decide

/-- `LDX #$8001` -/
theorem test_ldx : nextIs (cpu 0x00 0x00 0x0300 0x0000 0x1000 0xC3 [(0x1000, 0xCE), (0x1001, 0x80), (0x1002, 0x01)])
    (after 0x00 0x00 0x8001 0x0000 0x1003 0xC9 []) = true := by
  decide

/-- `STX $40` -/
theorem test_stx : nextIs (cpu 0x00 0x00 0x1234 0x0000 0x1000 0xCB [(0x1000, 0xDF), (0x1001, 0x40)])
    (after 0x00 0x00 0x1234 0x0000 0x1002 0xC1 [(0x0040, 0x12), (0x0041, 0x34)]) = true := by
  decide

/-! ### Unassigned opcodes, kinds of address and the stop at a read with a side effect -/

/-- R91, R13: the first and the last unassigned value fault, with the byte and its address. -/
theorem test_unassigned :
    step (cpu 0 0 0 0 0x1000 0xC0 [(0x1000, 0xCF)]) = .fault (.illegalOpcode 0xCF 0x1000) ∧
    step (cpu 0 0 0 0 0x1000 0xC0 []) = .fault (.illegalOpcode 0x00 0x1000) := by
  exact ⟨rfl, rfl⟩

/-- A platform with an address of every kind: devices at $0000-$001F without and at $0020-$002F with read
side effects, nothing at $4000-$4FFF, rom at $F000-$FFFF, storage elsewhere. -/
def mixed : Platform :=
  { defaultPlatform with
    memMap := [⟨0x0000, 0x20, .device false⟩, ⟨0x0020, 0x10, .device true⟩,
               ⟨0x4000, 0x1000, .absent⟩, ⟨0xF000, 0x1000, .rom⟩] }

/-- The kinds at both ends of each region. -/
theorem test_kinds :
    [0x0000, 0x001F, 0x0020, 0x002F, 0x0030, 0x3FFF, 0x4000, 0x4FFF, 0x5000, 0xEFFF, 0xF000, 0xFFFF].map
      (fun a => kindAt mixed a) =
    [.device false, .device false, .device true, .device true, .storage, .storage, .absent, .absent,
     .storage, .storage, .rom, .rom] := by
  decide

/-- R60: a store to rom or to an absent address changes no memory; the access is recorded. -/
theorem test_store_rom :
    nextIs { cpu 0x55 0 0x1000 0x0200 0x1000 0xC0 [(0x1000, 0xB7), (0x1001, 0xF0), (0x1002, 0x00),
                                                   (0xF000, 0x77)] with platform := mixed }
      (fun t => (t.mem.read 0xF000).toNat == 0x77 && t.bus.contains (.write 0xF000 0x55)) = true := by
  decide

/-- U8, D19: an operand at a read with a side effect, and X pointing at one, are refused. -/
theorem test_read_effect :
    step { cpu 0 0 0x1000 0x0200 0x1000 0xC0 [(0x1000, 0x96), (0x1001, 0x20)] with platform := mixed } =
      .refused (.busActivityUnknown 0x0020) ∧
    step { cpu 0 0 0x002F 0x0200 0x1000 0xC0 [(0x1000, 0x01)] with platform := mixed } =
      .refused (.busActivityUnknown 0x002F) := by
  exact ⟨rfl, rfl⟩

/-- R26: an instruction straddles $FFFF and $0000. -/
theorem test_wraps_pc :
    nextIs (cpu 0 0 0 0 0xFFFF 0xC0 [(0x0000, 0x5A), (0xFFFF, 0x86)]) (fun t => t.a == 0x5A && t.pc == 1)
      = true := by
  decide

/-- R85: a 16-bit operand at the direct address $FF takes its second byte from $0100. -/
theorem test_direct_ff :
    nextIs (cpu 0 0 0 0 0x1000 0xC0 [(0x00FF, 0x12), (0x0100, 0x34), (0x1000, 0xDE), (0x1001, 0xFF)])
      (fun t => t.x == 0x1234) = true := by
  decide

/-- R57: the accesses of `STD $40`, in order. -/
theorem test_access_order :
    nextIs (cpu 0x12 0x34 0 0 0x1000 0xC0 [(0x1000, 0xDD), (0x1001, 0x40)])
      (fun t => t.bus == [.read 0x1000 0xDD, .read 0x1001 0x40, .write 0x0040 0x12, .write 0x0041 0x34])
      = true := by
  decide

/-! ### Interrupts, the wait and reset (L2.8 to L2.10) -/

/-- The machine of L2.8: INCA at $1234, the vectors of NMI, IRQ1, ICF and SCI, and these requests. -/
def interrupted (ccr : Nat) (asserted : List SourceName) : State :=
  { cpu 0x11 0x22 0x3344 0x01FF 0x1234 ccr
      [(0x1234, 0x4C), (0xFFF0, 0x4F), (0xFFF6, 0x46), (0xFFF8, 0x40), (0xFFFC, 0x50)] with
    inputs := [⟨none, asserted⟩] }

/-- V1: IRQ1 with I = 0 is taken. -/
theorem test_irq : nextIs (interrupted 0xC5 [.irq1])
    (after 0x11 0x22 0x3344 0x01F8 0x4000 0xD5
      [(0x01F9, 0xC5), (0x01FA, 0x22), (0x01FB, 0x11), (0x01FC, 0x33), (0x01FD, 0x44), (0x01FE, 0x12),
       (0x01FF, 0x34)]) = true := by
  decide

/-- V2: IRQ1 with I = 1 is inhibited; INCA executes. -/
theorem test_irq_masked : nextIs (interrupted 0xD5 [.irq1])
    (after 0x12 0x22 0x3344 0x01FF 0x1235 0xD1 []) = true := by
  decide

/-- V3: NMI is taken with I = 1. -/
theorem test_nmi : nextIs (interrupted 0xD5 [.nmi])
    (after 0x11 0x22 0x3344 0x01F8 0x5000 0xD5 [(0x01F9, 0xD5), (0x01FF, 0x34)]) = true := by
  decide

/-- V4: NMI comes before IRQ1. -/
theorem test_nmi_first : nextIs (interrupted 0xC5 [.irq1, .nmi])
    (after 0x11 0x22 0x3344 0x01F8 0x5000 0xD5 [(0x01F9, 0xC5)]) = true := by
  decide

/-- V5: ICF comes before SCI. -/
theorem test_icf_first : nextIs (interrupted 0xC0 [.sci, .icf])
    (after 0x11 0x22 0x3344 0x01F8 0x4600 0xD0 [(0x01F9, 0xC0)]) = true := by
  decide

/-- The machine of L2.9 after WAI at $1000, with these requests. -/
def waiting (ccr : Nat) (asserted : List SourceName) : State :=
  { cpu 0x11 0x22 0x3344 0x00F8 0x1001 ccr
      [(0x00F9, ccr), (0x00FA, 0x22), (0x00FB, 0x11), (0x00FC, 0x33), (0x00FD, 0x44), (0x00FE, 0x10),
       (0x00FF, 0x01), (0xFFF8, 0x40), (0xFFFC, 0x50)] with
    waiting := true
    inputs := [⟨none, asserted⟩] }

/-- L2.9: nothing asserted, the wait goes on and nothing changes. -/
theorem test_wait_goes_on : nextIs (waiting 0xC1 [])
    (fun t => t.waiting && after 0x11 0x22 0x3344 0x00F8 0x1001 0xC1 [] t) = true := by
  decide

/-- L2.9: IRQ1 ends the wait; nothing is pushed. -/
theorem test_wait_ends : nextIs (waiting 0xC1 [.irq1])
    (fun t => !t.waiting && after 0x11 0x22 0x3344 0x00F8 0x4000 0xD1 [(0x00F8, 0x00)] t) = true := by
  decide

/-- L2.9: with I = 1, IRQ1 does not end the wait and NMI does. -/
theorem test_wait_masked :
    nextIs (waiting 0xD0 [.irq1]) (fun t => t.waiting && t.pc == 0x1001) = true ∧
    nextIs (waiting 0xD0 [.irq1, .nmi]) (fun t => !t.waiting && t.pc == 0x5000) = true := by
  decide

/-- L2.10: reset in the wait. -/
theorem test_reset_event :
    nextIs { cpu 0x11 0x22 0 0x00F8 0x1234 0xC0 [(0xFFFE, 0x20)] with
             waiting := true, inputs := [⟨some 0, [.nmi]⟩] }
      (fun t => t.ccr.i && !t.waiting && t.pc == 0x2000 && t.mem == [(0xFFFE, 0x20)]) = true := by
  decide

/-- R281: reset after the third access of `STD $40` leaves the first byte written and the second not. -/
theorem test_reset_cuts_store :
    nextIs { cpu 0x12 0x34 0 0 0x1000 0xC0 [(0x1000, 0xDD), (0x1001, 0x40), (0xFFFE, 0x20)] with
             inputs := [⟨some 3, []⟩] }
      (fun t => t.pc == 0x2000 && t.mem.read 0x40 == 0x12 && t.mem.read 0x41 == 0) = true := by
  decide

/-- R57: with X at a device whose read has a side effect, an interrupt entry, a step in the wait and a reset
that cuts the step are refused as an instruction is; a reset at the boundary itself (R280) is not. -/
theorem test_pointer_refused :
    let s : State := { cpu 0 0 0x0020 0x0200 0x1000 0xC0 [(0x1000, 0x01)] with platform := mixed }
    refusedAt s = some 0x0020 ∧
    refusedAt { s with inputs := [⟨none, [.nmi]⟩] } = some 0x0020 ∧
    refusedAt { s with waiting := true } = some 0x0020 ∧
    refusedAt { s with inputs := [⟨some 1, []⟩] } = some 0x0020 ∧
    refusedAt { s with inputs := [⟨some 0, []⟩] } = none := by
  decide

/-- The word placed for the next fetch runs as the first instruction after reset. -/
theorem test_fetch_word :
    decodeTableWord 24 0x3412BD = some (.jsrExt 0x1234) ∧
    nextIs (State.reset.withFetchWord 24 0x3412BD) (fun t => t.pc == 0x1234 && t.sp == 0xFFFE) = true := by
  decide

/-! ### Hypotheses that can be met: one witness for each statement that has any -/

theorem test_hyp_DecodedBytesAreTheEncoding :
    decode [0x86, 0x12, 0x99] = .ok (.ldaaImm 0x12, [0x99]) := rfl

theorem test_hyp_DecoderRejectsExactlyTheUnassigned :
    0x00 ∈ unassignedOpcodes ∧ 0xCF ∈ unassignedOpcodes ∧ 0x01 ∉ unassignedOpcodes ∧
    0xFF ∉ unassignedOpcodes := by
  decide

theorem test_hyp_TheTableIsRegular :
    (opcodeRow 0x8D).isSome = true ∧ (opcodeRow 0xCE).isSome = true ∧
    ((opcodeRow 0x90).isSome && (opcodeRow 0xA0).isSome && (opcodeRow 0xB0).isSome) = true ∧
    ((opcodeRow 0xDF).isSome && (opcodeRow 0xEF).isSome && (opcodeRow 0xFF).isSome) = true := by
  decide

theorem test_hyp_AccessesByKindOfAddress :
    let s : State := { State.reset with platform := mixed }
    kindAt s.platform 0xEFFF = .storage ∧ MemoryCanonical s ∧
    kindAt s.platform 0xF000 ≠ .storage ∧ kindAt s.platform 0xF000 = .rom ∧
    kindAt s.platform 0x4000 ≠ .storage ∧ kindAt s.platform 0x4000 ≠ .rom ∧
    kindAt s.platform 0x001F ≠ .storage ∧ kindAt s.platform 0x001F ≠ .rom := by
  refine ⟨rfl, rfl, ?_, rfl, ?_, ?_, ?_, ?_⟩ <;> decide

theorem test_hyp_WordsAreBigEndian :
    kindAt State.reset.platform 0xFFFF = .storage ∧
    kindAt State.reset.platform (0xFFFF + 1) = .storage ∧ MemoryCanonical State.reset :=
  ⟨rfl, rfl, rfl⟩

/-- Every address of the default platform is storage, also where a stack wraps past $0000. -/
theorem test_hyp_StackPrimitives :
    MemoryCanonical State.reset ∧ StackInStorage State.reset.platform 0x0000 1 ∧
    StackInStorage State.reset.platform 0x0000 2 :=
  ⟨rfl, fun _ _ => rfl, fun _ _ => rfl⟩

theorem test_hyp_DecimalAdjustGivesTheBcdSum :
    let s := cpu 0x99 0 0 0 0 0xC1 []
    s.a = BitVec.ofNat 8 (99 / 10 * 16 + 99 % 10) ∧ (0x99 : Byte) = BitVec.ofNat 8 (99 / 10 * 16 + 99 % 10) ∧
    ∃ t u, exec (.adcaImm 0x99) s = .next t ∧ exec .daa t = .next u :=
  ⟨rfl, rfl, _, _, rfl, rfl⟩

theorem test_hyp_BranchesAfterACompare :
    (∃ t, exec (cmpForm .a (.imm 0x80)) (cpu 0x7F 0 0 0 0 0xC0 []) = .next t) ∧
    (∃ t, exec (subForm .b (.imm 0x80)) (cpu 0 0x7F 0 0 0 0xC0 []) = .next t) ∧
    (∃ t, exec .cba (cpu 0x7F 0x80 0 0 0 0xC0 []) = .next t) ∧
    (∃ t, exec .sba (cpu 0x7F 0x80 0 0 0 0xC0 []) = .next t) :=
  ⟨⟨_, rfl⟩, ⟨_, rfl⟩, ⟨_, rfl⟩, ⟨_, rfl⟩⟩

theorem test_hyp_StackPointerAndIndex : ∃ t, exec .tsx (cpu 0 0 0 0xFFFF 0 0xC0 []) = .next t :=
  ⟨_, rfl⟩

theorem test_hyp_ReturnFromInterrupt : ∀ k : Nat, 1 ≤ k → k ≤ 7 →
    (kindAt State.reset.platform (State.reset.sp + BitVec.ofNat 16 k)).holdsByte = true :=
  fun _ _ _ => rfl

theorem test_hyp_StackAllLaysTheFrame :
    StackInStorage State.reset.platform State.reset.sp 7 ∧ MemoryCanonical State.reset :=
  ⟨fun _ _ => rfl, rfl⟩

/-- The handler's last state here: A and X changed, the stack pointer and the frame as they were. -/
theorem test_hyp_ReturnUndoesSoftwareInterrupt :
    let s := cpu 0x11 0x22 0x3344 0x0003 0x1001 0xC1 []
    StackInStorage s.platform s.sp 7 ∧ MemoryCanonical s ∧
    ∃ t u : State, exec .swi s = .next t ∧ u.a ≠ t.a ∧ u.sp = t.sp ∧ u.platform = t.platform ∧
      ∀ addr : Word, addr ∈ stackBelow s.sp 7 → u.mem.read addr.toNat = t.mem.read addr.toNat := by
  intro s
  exact ⟨fun _ _ => rfl, rfl, enterHandler s.platform.vecSwi (stackAll s),
    { enterHandler s.platform.vecSwi (stackAll s) with a := 0, x := 0 }, rfl, by decide, rfl, rfl,
    fun _ _ => rfl⟩

/-- The subroutine's last state here: B changed, the stack pointer and the two bytes as they were; $0000
wraps to $FFFF. -/
theorem test_hyp_ReturnFromSubroutine :
    let s := cpu 0 0 0 0x0000 0x1002 0xC0 []
    StackInStorage s.platform s.sp 2 ∧ MemoryCanonical s ∧
    (∃ t, exec (jsrForm (.ext 0x2000)) s = .next t) ∧
    ∃ t u : State, exec (.bsr 0x80) s = .next t ∧ u.b ≠ t.b ∧ u.sp = t.sp ∧ u.platform = t.platform ∧
      ∀ addr : Word, addr ∈ stackBelow s.sp 2 → u.mem.read addr.toNat = t.mem.read addr.toNat := by
  intro s
  exact ⟨fun _ _ => rfl, rfl, ⟨_, rfl⟩, callTo (relTarget 0x80 s) s,
    { callTo (relTarget 0x80 s) s with b := 7 }, rfl, by decide, rfl, rfl, fun _ _ => rfl⟩

/-- For the statements over the two memory forms of a unary operation: NegateAndComplement,
ShiftsAndRotates, IncrementAndDecrement, TestAndClear and ReadModifyWriteAccesses. -/
theorem test_hyp_UnaryMemoryForms :
    (∃ off, UnaryForm.ind 0xFF = .ind off ∧ MemMode.ind 0xFF = .ind off) ∧
    (∃ addr, UnaryForm.ext 0xFFFF = .ext addr ∧ MemMode.ext 0xFFFF = .ext addr) ∧
    clrForm ∈ [negForm, comForm, lsrForm, rorForm, asrForm, aslForm, rolForm, decForm, incForm, clrForm] :=
  ⟨⟨_, rfl, rfl⟩, ⟨_, rfl, rfl⟩, by simp⟩

/-- For OnlyNamedInstructionsWriteFlags, OnlyNamedInstructionsWriteRegisters and
StoresReachOnlyTheirAddresses: an instruction that changes flags, registers and memory. -/
theorem test_hyp_ExecAnswersNext : ∃ t, exec .swi (cpu 0 0 0 0x0100 0x1000 0xC0 []) = .next t ∧
    t.ccr.i ≠ false ∧ t.sp ≠ 0x0100 ∧ (0x0101 : Word) ∉ storesTo .swi (cpu 0 0 0 0x0100 0x1000 0xC0 []) :=
  ⟨_, rfl, by decide, by decide, by decide⟩

theorem test_hyp_StepRunsTheDecodedInstruction :
    let s := cpu 0 0 0 0 0xFFFF 0xC0 [(0x0000, 0x5A), (0xFFFF, 0x86)]
    RunsInstruction s ∧ BytesAtPc s [0x86, 0x5A] ∧ decode [0x86, 0x5A] = .ok (.ldaaImm 0x5A, []) ∧
    NoReadEffects s.platform := by
  refine ⟨⟨rfl, rfl, rfl, rfl⟩, ?_, rfl, fun _ => rfl⟩
  intro k h
  match k, h with
  | 0, _ => exact ⟨rfl, rfl⟩
  | 1, _ => exact ⟨rfl, rfl⟩

theorem test_hyp_OnlyUnassignedOpcodesFault :
    let s := cpu 0 0 0 0 0x1000 0xC0 [(0x1000, 0xCF)]
    RunsInstruction s ∧ BytesAtPc s [0xCF] ∧ 0xCF ∈ unassignedOpcodes ∧
    step s = .fault (.illegalOpcode 0xCF 0x1000) := by
  refine ⟨⟨rfl, rfl, rfl, rfl⟩, ?_, by decide, rfl⟩
  intro k h
  match k, h with
  | 0, _ => exact ⟨rfl, rfl⟩

/-- A pointer at the last address with a side effect; an access at the first one, by `LDAA $0020`, with a reset
that would cut it before that access; and neither at the addresses next to them. -/
theorem test_hyp_RefusedOnlyAtReadEffects :
    let s : State := { cpu 0 0 0x002F 0x0200 0x1000 0xC0 [] with platform := mixed }
    let u : State := { cpu 0 0 0x0030 0x0200 0x1000 0xC0 [(0x1000, 0x96), (0x1001, 0x20)] with
                       platform := mixed, inputs := [⟨some 1, []⟩] }
    (presented s).reset ≠ some 0 ∧ hasReadEffect s.platform s.x = true ∧ refusedAt s = some 0x002F ∧
    pointerAtEffect u = none ∧ (presented u).reset ≠ some 0 ∧ refusedAt u = some 0x0020 ∧
    hasReadEffect mixed 0x0020 = true ∧ hasReadEffect mixed 0x001F = false ∧
    hasReadEffect mixed 0x0030 = false ∧ (∃ t, runBoundary [] (beginStep u) = .next t) ∧
    NoReadEffects State.reset.platform := by
  refine ⟨?_, ?_, ?_, ?_, ?_, ?_, ?_, ?_, ?_, ⟨_, rfl⟩, fun _ => rfl⟩ <;> decide

theorem test_hyp_InterruptRecognition :
    presented (interrupted 0xC5 [.irq1]) = ⟨none, [.irq1]⟩ ∧
    eligibleSource [.irq1] (interrupted 0xC5 [.irq1]) = some ⟨.irq1, true, 0xFFF8⟩ ∧
    pointerAtEffect (interrupted 0xC5 [.irq1]) = none ∧
    eligibleSource [.irq1] (interrupted 0xD5 [.irq1]) = none := by
  decide

theorem test_hyp_InterruptEntry :
    let s := cpu 0x11 0x22 0x3344 0x0003 0x1234 0xC5 []
    s.waiting = false ∧ StackInStorage s.platform s.sp 7 ∧ MemoryCanonical s ∧
    (kindAt s.platform 0xFFFF).holdsByte = true ∧ (kindAt s.platform (0xFFFF + 1)).holdsByte = true :=
  ⟨rfl, fun _ _ => rfl, rfl, rfl, rfl⟩

theorem test_hyp_WaitingStep :
    (waiting 0xC1 []).waiting = true ∧ (presented (waiting 0xC1 [])).reset = none ∧
    pointerAtEffect (waiting 0xC1 []) = none ∧ pointerAtEffect (waiting 0xC1 [.irq1]) = none ∧
    eligibleSource (presented (waiting 0xC1 [])).asserted (waiting 0xC1 []) = none ∧
    eligibleSource (presented (waiting 0xC1 [.irq1])).asserted (waiting 0xC1 [.irq1]) =
      some ⟨.irq1, true, 0xFFF8⟩ ∧
    hasReadEffect (waiting 0xC1 [.irq1]).platform 0xFFF8 = false ∧
    hasReadEffect (waiting 0xC1 [.irq1]).platform 0xFFF9 = false := by
  decide

theorem test_hyp_WaitBeginsWithWaiEndsByEvent :
    nextIs (cpu 0 0 0 0x0100 0x1000 0xC0 [(0x1000, 0x3E)]) (fun t => t.waiting) = true ∧
    nextIs (waiting 0xC1 [.irq1]) (fun t => !t.waiting) = true := by
  decide

/-- At the boundary; after the third of the four accesses of an STD, and after all of them; in a step that would
fault; and in one that would be refused. -/
theorem test_hyp_ResetAtABoundary :
    let s (k : Nat) : State := { cpu 0x12 0x34 0 0 0x1000 0xC0 [(0x1000, 0xDD), (0x1001, 0x40)] with
                                 inputs := [⟨some k, [.irq1]⟩] }
    let masked (k : Nat) : State := { s k with ccr := CCR.ofByte 0xD0 }
    (presented (s 0)).reset = some 0 ∧ hasReadEffect (s 0).platform (s 0).platform.vecReset = false ∧
    hasReadEffect (s 0).platform ((s 0).platform.vecReset + 1) = false ∧
    (kindAt (s 0).platform (s 0).platform.vecReset).holdsByte = true ∧
    (kindAt (s 0).platform ((s 0).platform.vecReset + 1)).holdsByte = true ∧
    nextIs (withoutReset (masked 3)) (fun u => u.bus.length == 4 && (u.bus.take 3).length == 3) = true ∧
    nextIs (withoutReset (masked 4)) (fun u => decide (u.bus.length ≤ 4)) = true ∧
    step (withoutReset { masked 1 with pc := 0x2000 }) = .fault (.illegalOpcode 0 0x2000) ∧
    refusedAt (withoutReset { masked 1 with x := 0x0020, platform := mixed }) = some 0x0020 := by
  refine ⟨?_, ?_, ?_, ?_, ?_, ?_, ?_, rfl, ?_⟩ <;> decide

theorem test_hyp_OnlyCliTapRtiUnmask :
    nextIs (cpu 0 0 0 0x0100 0x1000 0xD0 [(0x1000, 0x0E)]) (fun t => !t.ccr.i) = true ∧
    (cpu 0 0 0 0x0100 0x1000 0xD0 []).ccr.i = true := by
  decide

/-- For StepKeepsMemoryCanonical and StepKeepsRomAndPlatform: a store that removes an entry, and an address
that is not storage. -/
theorem test_hyp_StepKeeps :
    let s : State := { cpu 0 0 0x3000 0x0200 0x1000 0xC0 [(0x1000, 0x6F), (0x1001, 0x00), (0x3000, 0x77)] with
                       platform := mixed }
    MemoryCanonical s ∧ nextIs s (fun t => t.mem == [(0x1000, 0x6F)]) = true ∧
    kindAt s.platform 0xF000 ≠ .storage := by
  refine ⟨rfl, ?_, ?_⟩ <;> decide

end Sys2Proof.Tests
end

section
/-! Byte order, the stack and the adders (00_scope.md R7 to R12, 20_memory.md R52 to R54), and what one step of
the machine is where it runs an instruction (R13, R14). -/

namespace Sys2Proof.Machine

/-! ### Reads after writes and pushes -/

/-- A store to a byte of storage is what the next read there returns (R60). -/
theorem readValue_memWrite8_same {s : State} {addr : Word} (v : Byte)
    (hk : kindAt s.platform addr = .storage) (hm : MemoryCanonical s) :
    readValue addr (memWrite8 addr v s) = v := by
  rw [readValue_of_holds (s := memWrite8 addr v s) (holdsByte_of_storage hk)]
  exact memWrite8_read_same v hk hm

/-- A store elsewhere does not change what a read of a byte of storage returns (R60). -/
theorem readValue_memWrite8_other {s : State} {addr other : Word} (v : Byte)
    (hk : kindAt s.platform addr = .storage) (hne : addr ≠ other) :
    readValue addr (memWrite8 other v s) = readValue addr s := by
  rw [readValue_of_holds (s := memWrite8 other v s) (holdsByte_of_storage hk),
    readValue_of_holds (holdsByte_of_storage hk)]
  exact memWrite8_read_other v s hne

/-- A read of storage sees memory and the platform alone. -/
theorem readValue_congr {s t : State} {addr : Word} (hk : kindAt s.platform addr = .storage)
    (hp : t.platform = s.platform) (hm : t.mem = s.mem) : readValue addr t = readValue addr s := by
  rw [readValue_of_holds (holdsByte_of_storage hk),
    readValue_of_holds (holdsByte_of_storage (hp ▸ hk)), hm]

theorem word_ne_add_one (addr : Word) : addr ≠ addr + 1 := by bv_omega

/-- The first byte of a 16-bit store is the high one (R52). -/
theorem readValue_memWrite16_first {s : State} {addr : Word} (v : Word)
    (hk : kindAt s.platform addr = .storage) (hm : MemoryCanonical s) :
    readValue addr (memWrite16 addr v s) = hiByte v :=
  (readValue_memWrite8_other (s := memWrite8 addr (hiByte v) s) _ hk (word_ne_add_one addr)).trans
    (readValue_memWrite8_same _ hk hm)

/-- The second byte of a 16-bit store, at the next address modulo 2^16, is the low one (R52, R54). -/
theorem readValue_memWrite16_second {s : State} {addr : Word} (v : Word)
    (hk : kindAt s.platform (addr + 1) = .storage) (hm : MemoryCanonical s) :
    readValue (addr + 1) (memWrite16 addr v s) = loByte v :=
  readValue_memWrite8_same _ hk (memWrite8_wf addr (hiByte v) hm)

/-- Settles O7: the first two clauses are the definitions; the two bytes of a stored word are read
back one by one, and a 16-bit read joins them. -/
theorem wordsAreBigEndian : Obligations.WordsAreBigEndian := by
  unfold Obligations.WordsAreBigEndian
  intro s addr v
  refine ⟨rfl, rfl, fun hk hk' hm => ?_⟩
  have hfirst := readValue_memWrite16_first v hk hm
  have hsecond := readValue_memWrite16_second v hk' hm
  refine ⟨hfirst, hsecond, ?_⟩
  have hnext : readValue (addr + 1) (memRead8 addr (memWrite16 addr v s)).2 = loByte v :=
    (readValue_congr (s := memWrite16 addr v s) (t := (memRead8 addr (memWrite16 addr v s)).2)
      (by simpa using hk') rfl rfl).trans hsecond
  rw [memRead16_value, hfirst, hnext, join_hiByte_loByte]

/-! ### The stack -/

/-- What `pull8` returns stands one above SP (R9). -/
theorem pull8_value_of_storage {s : State} (hk : kindAt s.platform (s.sp + 1) = .storage) :
    (pull8 s).1 = readValue (s.sp + 1) s :=
  readValue_congr hk rfl rfl

/-- A byte pushed on storage stands where SP pointed (R9). -/
theorem readValue_push8_same {s : State} (v : Byte) (hm : MemoryCanonical s)
    (hk : kindAt s.platform s.sp = .storage) : readValue s.sp (push8 v s) = v :=
  (readValue_congr (s := memWrite8 s.sp v s) hk rfl rfl).trans (readValue_memWrite8_same v hk hm)

/-- A byte pushed on storage is pulled again (R9). -/
theorem pull8_push8 {s : State} (v : Byte) (hm : MemoryCanonical s)
    (hk : kindAt s.platform s.sp = .storage) : (pull8 (push8 v s)).1 = v := by
  have hsp : (push8 v s).sp + 1 = s.sp := by simp
  rw [pull8_value_of_storage (by rwa [hsp]), hsp]
  exact readValue_push8_same v hm hk

/-- After a byte has been pushed and pulled, a further pull finds what the stack held below it (R9). -/
theorem pull8_pull8_push8 {s : State} (v : Byte) (hk : kindAt s.platform (s.sp + 1) = .storage) :
    (pull8 (pull8 (push8 v s)).2).1 = readValue (s.sp + 1) s := by
  have hsp : (pull8 (push8 v s)).2.sp + 1 = s.sp + 1 := by simp
  rw [pull8_value_of_storage (by rwa [hsp]), hsp]
  calc readValue (s.sp + 1) (pull8 (push8 v s)).2
      = readValue (s.sp + 1) (memWrite8 s.sp v s) := readValue_congr hk rfl rfl
    _ = readValue (s.sp + 1) s := readValue_memWrite8_other v hk (word_ne_add_one s.sp).symm

/-- A word pushed on storage is pulled again: its high byte, pushed last, comes first (R9). -/
theorem pull16_push16 {s : State} (w : Word) (hm : MemoryCanonical s)
    (hk : kindAt s.platform s.sp = .storage) (hk' : kindAt s.platform (s.sp - 1) = .storage) :
    (pull16 (push16 w s)).1 = w := by
  have hhigh : (pull8 (push16 w s)).1 = hiByte w :=
    pull8_push8 (hiByte w) (push8_wf (loByte w) hm) hk'
  have hsp : (push8 (loByte w) s).sp + 1 = s.sp := by simp
  have hlow : (pull8 (pull8 (push16 w s)).2).1 = loByte w := by
    rw [push16, pull8_pull8_push8 _ (by rwa [hsp]), hsp]
    exact readValue_push8_same (loByte w) hm hk
  calc (pull16 (push16 w s)).1
      = join (pull8 (push16 w s)).1 (pull8 (pull8 (push16 w s)).2).1 := rfl
    _ = w := by rw [hhigh, hlow, join_hiByte_loByte]

/-- Settles O8: the first four clauses are the definitions; the round trips are `pull8_push8` and
`pull16_push16`. -/
theorem stackPrimitives : Obligations.StackPrimitives := by
  unfold Obligations.StackPrimitives
  intro s v w
  refine ⟨rfl, rfl, rfl, rfl, fun hm hst => ⟨?_, by simp⟩, fun hm hst => ⟨?_, by simp⟩⟩
  · exact pull8_push8 v hm (by simpa using hst 0 (by omega))
  · exact pull16_push16 w hm (by simpa using hst 0 (by omega)) (hst 1 (by omega))

/-! ### The adders and the subtractors -/

section Width
variable {w : Nat}

/-- The top bit of a number of `w + 1` bits. -/
theorem testBit_top {n : Nat} (h : n < 2 ^ (w + 1)) : n.testBit w = decide (2 ^ w ≤ n) := by
  have hdiv : n / 2 ^ w < 2 := Nat.div_lt_of_lt_mul (by rwa [← Nat.pow_succ])
  have hle : 2 ^ w ≤ n ↔ 1 ≤ n / 2 ^ w := (Nat.one_le_div_iff (by positivity)).symm
  rw [Nat.testBit_eq_decide_div_mod_eq, decide_eq_decide, hle]
  generalize n / 2 ^ w = q at hdiv
  omega

/-- A sum with carry takes one bit more than its operands. -/
theorem toNat_add_add_lt (a b : BitVec w) (cin : Bool) :
    a.toNat + b.toNat + cin.toNat < 2 ^ (w + 1) := by
  have hc := cin.toNat_lt
  have hpow : 2 ^ (w + 1) = 2 * 2 ^ w := by ring
  omega

/-- In one bit more a sum with carry is exact. -/
theorem toNat_add_one_bit_more (a b : BitVec w) (cin : Bool) :
    (a.setWidth (w + 1) + b.setWidth (w + 1) + (BitVec.ofBool cin).setWidth (w + 1)).toNat
      = a.toNat + b.toNat + cin.toNat := by
  simp only [BitVec.toNat_add, BitVec.toNat_setWidth, BitVec.toNat_ofBool, Nat.add_mod_mod,
    Nat.mod_add_mod]
  exact Nat.mod_eq_of_lt (toNat_add_add_lt a b cin)

/-- A word that holds a number exactly, narrowed by one bit: the low bits, and the bit cut off. -/
theorem narrow_of_toNat_eq {t : BitVec (w + 1)} {n : Nat} (h : t.toNat = n) :
    t.setWidth w = BitVec.ofNat w n ∧ t.getLsbD w = n.testBit w := by
  subst h
  exact ⟨(BitVec.ofNat_toNat w t).symm, (BitVec.testBit_toNat t).symm⟩

/-- A difference with borrow taken exactly and then narrowed is the difference modulo `2 ^ w`. -/
theorem ofInt_sub_sub (a b : BitVec w) (bin : Bool) :
    BitVec.ofInt w ((a.toNat : Int) - b.toNat - bin.toNat) = a - b - (BitVec.ofBool bin).setWidth w := by
  have hbin : (BitVec.ofBool bin).setWidth w = BitVec.ofNat w bin.toNat := by
    rw [← BitVec.ofNat_toNat, BitVec.toNat_ofBool]
  simp [hbin, Int.sub_eq_add_neg, BitVec.ofInt_add, BitVec.ofInt_neg, BitVec.sub_eq_add_neg]

/-- A sum with carry narrowed is the same from the signed operands as from the unsigned ones. -/
theorem ofNat_add_add_eq_ofInt (a b : BitVec w) (cin : Bool) :
    BitVec.ofNat w (a.toNat + b.toNat + cin.toNat) =
      BitVec.ofInt w (a.toInt + b.toInt + cin.toNat) := by
  simp [BitVec.ofInt_add, BitVec.ofNat_add]

/-- A difference with borrow narrowed is the same from the signed operands as from the unsigned ones. -/
theorem ofInt_sub_sub_eq_ofInt (a b : BitVec w) (bin : Bool) :
    BitVec.ofInt w ((a.toNat : Int) - b.toNat - bin.toNat) =
      BitVec.ofInt w (a.toInt - b.toInt - bin.toNat) := by
  simp [Int.sub_eq_add_neg, BitVec.ofInt_add, BitVec.ofInt_neg]

/-- A number narrowed to a signed word of `w + 1` bits is off by at most one turn of `2 ^ (w + 1)`, where it
is itself off by less than that. -/
theorem toInt_ofInt_wrap {t : Int} (hlo : -2 ^ (w + 1) ≤ t) (hhi : t < 2 ^ (w + 1)) :
    (BitVec.ofInt (w + 1) t).toInt = t ∨ (BitVec.ofInt (w + 1) t).toInt = t - 2 ^ (w + 1) ∨
      (BitVec.ofInt (w + 1) t).toInt = t + 2 ^ (w + 1) := by
  have hpow : ((2 ^ (w + 1) : Nat) : Int) = 2 ^ (w + 1) := by push_cast; rfl
  have hmod : t % 2 ^ (w + 1) = t ∨ t % 2 ^ (w + 1) = t + 2 ^ (w + 1) := by
    rcases Int.lt_or_le t 0 with hneg | hpos
    · right
      rw [← Int.add_emod_right]
      exact Int.emod_eq_of_lt (by omega) (by omega)
    · exact .inl (Int.emod_eq_of_lt hpos hhi)
  rw [BitVec.toInt_ofInt, Int.bmod_eq_emod, hpow]
  split <;> omega

/-- The range of a signed word. -/
theorem toInt_range (x : BitVec (w + 1)) : -2 ^ w ≤ x.toInt ∧ x.toInt < 2 ^ w :=
  ⟨x.le_toInt, x.toInt_lt⟩

/-- The complement of a signed word: the two add up to minus one. -/
theorem toInt_complement (x : BitVec (w + 1)) : (~~~x).toInt = -x.toInt - 1 := by
  have hnot : ((~~~x).toNat : Int) = (2 ^ (w + 1) : Nat) - (x.toNat + 1) := by
    rw [BitVec.toNat_not, Nat.sub_sub, Nat.add_comm 1, Nat.cast_sub x.isLt]
    rfl
  simp only [BitVec.toInt_eq_msb_cond, BitVec.msb_not, hnot, Nat.succ_pos, decide_true, Bool.true_and]
  cases x.msb
  · simp only [Bool.not_false, if_true, Bool.false_eq_true, if_false]
    omega
  · simp only [Bool.not_true, if_true, Bool.false_eq_true, if_false]
    omega

/-- The signs of `a`, `b` and their sum narrowed say whether the exact signed sum fits (R10, R12, R33). -/
theorem addOverflow_iff (a b : BitVec (w + 1)) (cin : Bool) :
    addOverflow a.msb b.msb (BitVec.ofNat (w + 1) (a.toNat + b.toNat + cin.toNat)).msb = true ↔
      a.toInt + b.toInt + cin.toNat < -2 ^ w ∨ 2 ^ w ≤ a.toInt + b.toInt + cin.toNat := by
  have hc := cin.toNat_lt
  have ha := toInt_range a
  have hb := toInt_range b
  have hr := toInt_range (BitVec.ofInt (w + 1) (a.toInt + b.toInt + cin.toNat))
  have hpow : (2 : Int) ^ (w + 1) = 2 * 2 ^ w := by ring
  have hwrap := toInt_ofInt_wrap (w := w) (t := a.toInt + b.toInt + cin.toNat) (by omega) (by omega)
  rw [ofNat_add_add_eq_ofInt]
  simp only [addOverflow, BitVec.msb_eq_toInt, Bool.or_eq_true, Bool.and_eq_true, Bool.not_eq_true',
    decide_eq_true_eq, decide_eq_false_iff_not]
  omega

/-- The same of a difference with borrow, which is the sum with the complement of `b` and of the borrow
(R11, R12, R33). -/
theorem subOverflow_iff (a b : BitVec (w + 1)) (bin : Bool) :
    subOverflow a.msb b.msb
        (BitVec.ofInt (w + 1) ((a.toNat : Int) - b.toNat - bin.toNat)).msb = true ↔
      a.toInt - b.toInt - bin.toNat < -2 ^ w ∨ 2 ^ w ≤ a.toInt - b.toInt - bin.toNat := by
  have hcompl : a.toInt + (~~~b).toInt + (!bin).toNat = a.toInt - b.toInt - bin.toNat := by
    have hnot : (!bin).toNat + bin.toNat = 1 := by cases bin <;> rfl
    rw [toInt_complement]
    omega
  have h := addOverflow_iff a (~~~b) (!bin)
  rw [ofNat_add_add_eq_ofInt, hcompl] at h
  rw [ofInt_sub_sub_eq_ofInt, ← h]
  simp [addOverflow, subOverflow]

end Width

/-- Settles O11: `addOverflow_iff` and `subOverflow_iff` at the two widths; 16 bits have no carry in. -/
theorem overflowIsSignedOverflow : Obligations.OverflowIsSignedOverflow := by
  unfold Obligations.OverflowIsSignedOverflow
  refine ⟨fun a b cin => ⟨?_, ?_⟩, fun a b => ⟨?_, ?_⟩⟩
  · refine (addOverflow_iff (w := 7) a b cin).trans ?_
    omega
  · refine (subOverflow_iff (w := 7) a b cin).trans ?_
    omega
  · refine (addOverflow_iff (w := 15) a b false).trans ?_
    simp only [Bool.toNat_false]
    omega
  · have h := subOverflow_iff (w := 15) a b false
    simp only [Bool.toNat_false, Nat.cast_zero, Int.sub_zero] at h
    refine h.trans ?_
    omega

/-- Settles O9: the sum in one bit more is the exact sum, so its top bit is the carry and its low bits are the
result. -/
theorem addersFollowTheirFormula : Obligations.AddersFollowTheirFormula := by
  unfold Obligations.AddersFollowTheirFormula
  refine ⟨fun a b cin => ⟨?_, ?_⟩, fun a b => ?_⟩
  · obtain ⟨hr, hc⟩ := narrow_of_toNat_eq (toNat_add_one_bit_more a b cin)
    simp only [add8, addOverflow, BitVec.msb_eq_getLsbD_last, hr, hc]
    rfl
  · obtain ⟨-, hc⟩ := narrow_of_toNat_eq
      (toNat_add_one_bit_more (a.extractLsb' 0 4) (b.extractLsb' 0 4) cin)
    rw [hc, testBit_top (toNat_add_add_lt _ _ cin), halfCarry, decide_eq_decide]
    simp only [BitVec.extractLsb'_toNat, Nat.shiftRight_zero]
    omega
  · have ht : (a.setWidth 17 + b.setWidth 17).toNat = a.toNat + b.toNat := by
      simpa using toNat_add_one_bit_more a b false
    obtain ⟨hr, hc⟩ := narrow_of_toNat_eq ht
    simp only [add16, addOverflow, BitVec.msb_eq_getLsbD_last, hr, hc]
    rfl

/-- Settles O10: the difference narrowed is the difference modulo `2 ^ w`, and it is negative exactly where
the subtrahend with the borrow exceeds the minuend. -/
theorem subtractorsFollowTheirFormula : Obligations.SubtractorsFollowTheirFormula := by
  unfold Obligations.SubtractorsFollowTheirFormula
  refine ⟨fun a b bin => ?_, fun a b => ?_⟩
  · have hborrow : decide ((a.toNat : Int) - b.toNat - bin.toNat < 0) =
        decide (a.toNat < b.toNat + bin.toNat) := by
      rw [decide_eq_decide]
      omega
    simp only [sub8, ofInt_sub_sub, hborrow, subOverflow, BitVec.msb_eq_getLsbD_last]
    rfl
  · have hr : BitVec.ofInt 16 ((a.toNat : Int) - b.toNat) = a - b := by
      simpa using ofInt_sub_sub a b false
    have hborrow : decide ((a.toNat : Int) - b.toNat < 0) = decide (a.toNat < b.toNat) := by
      rw [decide_eq_decide]
      omega
    simp only [sub16, hr, hborrow, subOverflow, BitVec.msb_eq_getLsbD_last]
    rfl

/-! ### The step -/

/-- Every instruction answers a next state (R251). -/
theorem exec_next (i : Instr) (s : State) : ∃ t, exec i s = .next t := by
  cases i <;> exact ⟨_, rfl⟩

/-- No row of TABLE 8 has an unassigned first byte, and every other first byte has one (R90, R91). -/
theorem opcodeRow_eq_none_iff (op : Byte) : opcodeRow op = none ↔ op ∈ unassignedOpcodes := by
  revert op
  decide

/-- The fetch of bytes in storage or rom that decode to an instruction gives the instruction and the state past
them (R8, R14). -/
theorem fetchInstr_of_bytesAtPc {s : State} {bytes : List Byte} {i : Instr} (h : BytesAtPc s bytes)
    (hd : decode bytes = .ok (i, [])) :
    fetchInstr s = .ok (i, { s with pc := s.pc + BitVec.ofNat 16 bytes.length,
                                    bus := s.bus ++ fetchReads s.pc bytes }) := by
  obtain ⟨op, rest, row, rfl, hrow, ht⟩ := decode_ok hd
  have hlen := length_of_takeOperands ht
  have hf := fetchBytes_of_bytesAtPc h
  simp only [List.length_cons, fetchBytes, Prod.mk.injEq, List.cons.injEq] at hf
  obtain ⟨⟨hop, hrest⟩, hstate⟩ := hf
  simp only [fetchInstr, hop, hrow, ← hlen, hrest, hd, hstate, List.length_cons]

/-- The state after the fetch in a step, from the one the step starts in. -/
theorem fetchInstr_beginStep {s : State} {bytes : List Byte} {i : Instr} (h : BytesAtPc s bytes)
    (hd : decode bytes = .ok (i, [])) : fetchInstr (beginStep s) = .ok (i, afterFetch s bytes) :=
  fetchInstr_of_bytesAtPc (s := beginStep s) h hd

/-- Where no address has a read with a side effect, the guard lets an instruction through (R57). -/
theorem guardBus_exec {i : Instr} {s : State} (h : NoReadEffects s.platform) :
    guardBus (exec i s) = exec i s :=
  guardBus_of_no_effect fun _ ht a => (exec_traced ht).1 ▸ h a

/-- Settles O48: the fetch gives the decoded instruction and `afterFetch`, and the guard is all that stands
between `exec` and the step. -/
theorem stepRunsTheDecodedInstruction : Obligations.StepRunsTheDecodedInstruction := by
  unfold Obligations.StepRunsTheDecodedInstruction
  intro s bytes i hruns hbytes hd
  have hstep : step s = guardBus (exec i (afterFetch s bytes)) := by
    rw [step_of_runs hruns, fetchInstr_beginStep hbytes hd]
  exact ⟨hstep, fun hno => hstep.trans (guardBus_exec hno)⟩

/-- A fetch at a byte without a row fails with that byte (R13). -/
theorem fetchInstr_of_unassigned {s : State} (h : opcodeRow (readValue s.pc s) = none) :
    fetchInstr s = .error (readValue s.pc s) := by
  simp [fetchInstr, h]

/-- A boundary without reset faults only where it runs an instruction whose opcode has no row (R13, R251). -/
theorem runBoundary_fault {asserted : List SourceName} {s : State} {e : Fault}
    (h : runBoundary asserted s = .fault e) :
    pointerAtEffect s = none ∧ eligibleSource asserted s = none ∧ s.waiting = false ∧
      ∃ op, fetchInstr s = .error op ∧ e = .illegalOpcode op s.pc := by
  unfold runBoundary at h
  cases hq : pointerAtEffect s with
  | some a => simp [hq] at h
  | none =>
    cases hs : eligibleSource asserted s with
    | some src => simp [hq, hs] at h
    | none =>
      cases hw : s.waiting with
      | true => simp [hq, hs, hw] at h
      | false =>
        simp only [hq, hs, hw, Bool.false_eq_true, if_false, runInstruction] at h
        cases hf : fetchInstr s with
        | error op =>
          simp only [hf, Host.Outcome.fault.injEq] at h
          exact ⟨rfl, rfl, rfl, op, rfl, h.symm⟩
        | ok r =>
          obtain ⟨t, ht⟩ := exec_next r.1 r.2
          simp [hf, ht] at h

/-- A reset faults nowhere (R280). -/
theorem resetAfter_ne_fault (k : Nat) (asserted : List SourceName) (s : State) (e : Fault) :
    resetAfter k asserted s ≠ .fault e := by
  unfold resetAfter
  cases completedAccesses k asserted s <;> simp

/-- A step faults only where it runs an instruction whose opcode, fetched at PC, has no row (R13, R14). -/
theorem step_fault {s : State} {e : Fault} (h : step s = .fault e) :
    RunsInstruction s ∧
      ∃ op, fetchInstr (beginStep s) = .error op ∧ e = .illegalOpcode op s.pc := by
  have hb := guardBus_fault.mp h
  cases hr : (presented s).reset with
  | some k =>
    simp only [hr] at hb
    exact absurd hb (resetAfter_ne_fault _ _ _ _)
  | none =>
    simp only [hr] at hb
    obtain ⟨hp, hs, hw, hf⟩ := runBoundary_fault hb
    exact ⟨⟨hr, hs, hw, hp⟩, hf⟩

/-- Settles O49: a fetch fails exactly at a byte without a row, `exec` and reset fault nowhere, and the bytes
without a row are the 36. -/
theorem onlyUnassignedOpcodesFault : Obligations.OnlyUnassignedOpcodesFault := by
  unfold Obligations.OnlyUnassignedOpcodesFault
  refine ⟨fun s op hruns hbytes hop => ?_, fun s e h => ?_⟩
  · obtain ⟨hholds, hread⟩ := hbytes 0 (by simp)
    simp only [BitVec.add_zero, List.getElem_cons_zero] at hholds hread
    have hvalue : readValue s.pc (beginStep s) = op := (readValue_of_holds hholds).trans hread
    have hfetch := fetchInstr_of_unassigned (s := beginStep s)
      ((opcodeRow_eq_none_iff _).mpr (hvalue.symm ▸ hop))
    rw [step_of_runs hruns, hfetch]
    simp [hvalue, guardBus]
  · obtain ⟨hruns, op, hfetch, he⟩ := step_fault h
    obtain ⟨hop, hrow⟩ := fetchInstr_error hfetch
    exact ⟨hruns, op, (opcodeRow_eq_none_iff op).mp hrow, hop, hfetch, he⟩

end Sys2Proof.Machine
end

section
/-! The registers, the condition bits, the wait and memory (10_state.md R20 to R41): what an instruction may change
of each, and what every step keeps. -/

namespace Sys2Proof.Machine

/-! ### What an instruction does to CCR -/

/-- What an instruction may do to CCR, from `f` to `g`: the classes of R35, each with the bits it keeps. CLI, SEI
and SWI write I alone, TAP and RTI the whole register; which value they write is `exec`'s. -/
inductive FlagsWritten (i : Instr) (f g : CCR) : Prop where
  | kept (hg : g = f)
  | hnzvc (hm : mnemonicOf i ∈ writersHNZVC) (hi : g.i = f.i)
  | nzvc (hm : mnemonicOf i ∈ writersNZVC ++ writersComTstClr ++ ["DAA"]) (hh : g.h = f.h)
      (hi : g.i = f.i)
  | nzv (hm : mnemonicOf i ∈ writersNZclearV ++ writersNZV) (hh : g.h = f.h) (hi : g.i = f.i)
      (hc : g.c = f.c)
  | zero (z : Bool) (hm : mnemonicOf i ∈ ["INX", "DEX"]) (hg : g = { f with z := z })
  | overflow (v : Bool) (hm : mnemonicOf i ∈ ["CLV", "SEV"]) (hg : g = { f with v := v })
  | carry (c : Bool) (hm : mnemonicOf i ∈ ["CLC", "SEC", "MUL"]) (hg : g = { f with c := c })
  | mask (b : Bool) (hi : i = .cli ∨ i = .sei ∨ i = .swi) (hg : g = { f with i := b })
  | all (hi : i = .tap ∨ i = .rti)

/-- Every instruction writes CCR as its class of R35 says. That its mnemonic is in the class is left to the end: the
opcode byte gives the row, and the list is walked to the row's mnemonic. -/
theorem exec_flags {i : Instr} {s t : State} (h : exec i s = .next t) :
    FlagsWritten i s.ccr t.ccr := by
  cases i
  case' aba | addaImm | addaDir | addaInd | addaExt | addbImm | addbDir | addbInd | addbExt |
      adcaImm | adcaDir | adcaInd | adcaExt | adcbImm | adcbDir | adcbInd | adcbExt =>
    cases h
    refine .hnzvc ?_ rfl
  case' sba | cba | subaImm | subaDir | subaInd | subaExt | subbImm | subbDir | subbInd | subbExt |
      cmpaImm | cmpaDir | cmpaInd | cmpaExt | cmpbImm | cmpbDir | cmpbInd | cmpbExt |
      sbcaImm | sbcaDir | sbcaInd | sbcaExt | sbcbImm | sbcbDir | sbcbInd | sbcbExt |
      subdImm | subdDir | subdInd | subdExt | adddImm | adddDir | adddInd | adddExt |
      cpxImm | cpxDir | cpxInd | cpxExt | lsrd | asld | daa |
      nega | negb | negInd | negExt | coma | comb | comInd | comExt | lsra | lsrb | lsrInd | lsrExt |
      rora | rorb | rorInd | rorExt | asra | asrb | asrInd | asrExt | asla | aslb | aslInd | aslExt |
      rola | rolb | rolInd | rolExt | tsta | tstb | tstInd | tstExt | clra | clrb | clrInd | clrExt =>
    cases h
    refine .nzvc ?_ rfl rfl
  case' andaImm | andaDir | andaInd | andaExt | andbImm | andbDir | andbInd | andbExt |
      bitaImm | bitaDir | bitaInd | bitaExt | bitbImm | bitbDir | bitbInd | bitbExt |
      eoraImm | eoraDir | eoraInd | eoraExt | eorbImm | eorbDir | eorbInd | eorbExt |
      oraaImm | oraaDir | oraaInd | oraaExt | orabImm | orabDir | orabInd | orabExt |
      ldaaImm | ldaaDir | ldaaInd | ldaaExt | ldabImm | ldabDir | ldabInd | ldabExt |
      lddImm | lddDir | lddInd | lddExt | ldxImm | ldxDir | ldxInd | ldxExt |
      ldsImm | ldsDir | ldsInd | ldsExt | staaDir | staaInd | staaExt | stabDir | stabInd | stabExt |
      stdDir | stdInd | stdExt | stxDir | stxInd | stxExt | stsDir | stsInd | stsExt | tab | tba |
      inca | incb | incInd | incExt | deca | decb | decInd | decExt =>
    cases h
    refine .nzv ?_ rfl rfl rfl
  case' inx | dex =>
    cases h
    refine .zero _ ?_ rfl
  case' clv | sev =>
    cases h
    refine .overflow _ ?_ rfl
  case' clc | sec | mul =>
    cases h
    refine .carry _ ?_ rfl
  case cli | sei | swi =>
    cases h
    exact .mask _ (by simp) rfl
  case tap | rti => exact .all (by simp)
  case nop | tpa | bra | brn | bhi | bls | bcc | bcs | bne | beq | bvc | bvs | bpl | bmi | bge |
      blt | bgt | ble | tsx | ins | pula | pulb | des | txs | psha | pshb | pulx | rts | abx | pshx | wai |
      jmpInd | jmpExt | bsr | jsrDir | jsrInd | jsrExt =>
    cases h
    exact .kept (by simp)
  all_goals
    dsimp only [mnemonicOf, rowOf, opcodeOf, encode, List.headD, writersHNZVC, writersNZVC,
      writersComTstClr, writersNZclearV, writersNZV]
    repeat constructor

/-- Each class lies in the lists of the bits it does not keep (R35). -/
theorem FlagsWritten.named {i : Instr} {f g : CCR} (h : FlagsWritten i f g) :
    (g.h ≠ f.h → mnemonicOf i ∈ writesH) ∧ (g.i ≠ f.i → mnemonicOf i ∈ writesI) ∧
      (g.n ≠ f.n → mnemonicOf i ∈ writesN) ∧ (g.z ≠ f.z → mnemonicOf i ∈ writesZ) ∧
      (g.v ≠ f.v → mnemonicOf i ∈ writesV) ∧ (g.c ≠ f.c → mnemonicOf i ∈ writesC) := by
  cases h with
  | kept hg => simp [hg]
  | hnzvc hm hi => simp [hi, hm, writesH, writesN, writesZ, writesV, writesC]
  | nzvc hm hh hi =>
    simp only [List.mem_append, List.mem_singleton] at hm
    rcases hm with (hm | hm) | hm <;> simp [hh, hi, hm, writesN, writesZ, writesV, writesC]
  | nzv hm hh hi hc =>
    rcases List.mem_append.mp hm with hm | hm <;> simp [hh, hi, hc, hm, writesN, writesZ, writesV]
  | zero z hm hg => simp [hg, writesZ, List.mem_append.mpr (.inr hm)]
  | overflow v hm hg => simp [hg, writesV, List.mem_append.mpr (.inr hm)]
  | carry c hm hg =>
    simp only [List.mem_cons, List.not_mem_nil, or_false] at hm
    rcases hm with hm | hm | hm <;> simp [hg, hm, writesC]
  | mask b hi hg =>
    have hm : mnemonicOf i ∈ writesI := by rcases hi with rfl | rfl | rfl <;> decide
    simp [hg, hm]
  | all hi =>
    have hm : mnemonicOf i = "TAP" ∨ mnemonicOf i = "RTI" := by rcases hi with rfl | rfl <;> decide
    rcases hm with hm | hm <;> simp [hm, writesH, writesI, writesN, writesZ, writesV, writesC]

/-- Settles O45: `exec_flags` puts every instruction in a class of R35. -/
theorem onlyNamedInstructionsWriteFlags : Obligations.OnlyNamedInstructionsWriteFlags := by
  unfold Obligations.OnlyNamedInstructionsWriteFlags
  intro i s t h
  exact (exec_flags h).named

/-- Only CLI, TAP and RTI clear I: SEI and SWI write it too, but as a one (R30, R122, R259). -/
theorem exec_unmask {i : Instr} {s t : State} (h : exec i s = .next t) (hs : s.ccr.i = true)
    (ht : t.ccr.i = false) : i = .cli ∨ i = .tap ∨ i = .rti := by
  have hne : t.ccr.i ≠ s.ccr.i := by simp [hs, ht]
  cases exec_flags h with
  | kept hg => exact absurd (congrArg CCR.i hg) hne
  | hnzvc _ hi => exact absurd hi hne
  | nzvc _ _ hi => exact absurd hi hne
  | nzv _ _ hi _ => exact absurd hi hne
  | zero _ _ hg => exact absurd (congrArg CCR.i hg) hne
  | overflow _ _ hg => exact absurd (congrArg CCR.i hg) hne
  | carry _ _ hg => exact absurd (congrArg CCR.i hg) hne
  | mask _ hi _ =>
    rcases hi with rfl | rfl | rfl
    · exact .inl rfl
    · cases h
      simp at ht
    · cases h
      simp at ht
  | all hi => exact .inr hi

/-! ### What an instruction does to the registers -/

/-- An instruction keeps accumulator A or is named as writing it (R20, R22). -/
theorem exec_a_kept_or_named {i : Instr} {s t : State} (h : exec i s = .next t) :
    t.a = s.a ∨ mnemonicOf i ∈ writesA := by
  cases i
  case subaImm | subaDir | subaInd | subaExt | sbcaImm | sbcaDir | sbcaInd | sbcaExt |
      andaImm | andaDir | andaInd | andaExt | ldaaImm | ldaaDir | ldaaInd | ldaaExt |
      eoraImm | eoraDir | eoraInd | eoraExt | adcaImm | adcaDir | adcaInd | adcaExt |
      oraaImm | oraaDir | oraaInd | oraaExt | addaImm | addaDir | addaInd | addaExt |
      nega | coma | lsra | rora | asra | asla | rola | deca | inca | clra | pula | sba | tba | aba |
      daa | tpa | mul | lsrd | asld | subdImm | subdDir | subdInd | subdExt | adddImm | adddDir |
      adddInd | adddExt | lddImm | lddDir | lddInd | lddExt | rti =>
    right
    dsimp only [mnemonicOf, rowOf, opcodeOf, encode, List.headD, writesA]
    repeat constructor
  all_goals
    left
    cases h
    simp

/-- An instruction keeps accumulator B or is named as writing it (R21, R22). -/
theorem exec_b_kept_or_named {i : Instr} {s t : State} (h : exec i s = .next t) :
    t.b = s.b ∨ mnemonicOf i ∈ writesB := by
  cases i
  case subbImm | subbDir | subbInd | subbExt | sbcbImm | sbcbDir | sbcbInd | sbcbExt |
      andbImm | andbDir | andbInd | andbExt | ldabImm | ldabDir | ldabInd | ldabExt |
      eorbImm | eorbDir | eorbInd | eorbExt | adcbImm | adcbDir | adcbInd | adcbExt |
      orabImm | orabDir | orabInd | orabExt | addbImm | addbDir | addbInd | addbExt |
      negb | comb | lsrb | rorb | asrb | aslb | rolb | decb | incb | clrb | pulb | tab |
      mul | lsrd | asld | subdImm | subdDir | subdInd | subdExt | adddImm | adddDir |
      adddInd | adddExt | lddImm | lddDir | lddInd | lddExt | rti =>
    right
    dsimp only [mnemonicOf, rowOf, opcodeOf, encode, List.headD, writesB]
    repeat constructor
  all_goals
    left
    cases h
    simp

/-- An instruction keeps X or is named as writing it (R23). -/
theorem exec_x_kept_or_named {i : Instr} {s t : State} (h : exec i s = .next t) :
    t.x = s.x ∨ mnemonicOf i ∈ writesX := by
  cases i
  case ldxImm | ldxDir | ldxInd | ldxExt | inx | dex | abx | tsx | pulx | rti =>
    right
    dsimp only [mnemonicOf, rowOf, opcodeOf, encode, List.headD, writesX]
    repeat constructor
  all_goals
    left
    cases h
    simp

/-- An instruction keeps SP or is named as writing it (R24). -/
theorem exec_sp_kept_or_named {i : Instr} {s t : State} (h : exec i s = .next t) :
    t.sp = s.sp ∨ mnemonicOf i ∈ writesSP := by
  cases i
  case ldsImm | ldsDir | ldsInd | ldsExt | txs | ins | des | psha | pshb | pshx | pula | pulb | pulx |
      bsr | jsrDir | jsrInd | jsrExt | rts | rti | swi | wai =>
    right
    dsimp only [mnemonicOf, rowOf, opcodeOf, encode, List.headD, writesSP]
    repeat constructor
  all_goals
    left
    cases h
    simp

/-- An instruction leaves PC at the next instruction or is named as writing it (R26). -/
theorem exec_pc_kept_or_named {i : Instr} {s t : State} (h : exec i s = .next t) :
    t.pc = s.pc ∨ mnemonicOf i ∈ writesPC := by
  cases i
  case bra | bhi | bls | bcc | bcs | bne | beq | bvc | bvs | bpl | bmi | bge | blt | bgt | ble |
      jmpInd | jmpExt | bsr | jsrDir | jsrInd | jsrExt | rts | rti | swi =>
    right
    dsimp only [mnemonicOf, rowOf, opcodeOf, encode, List.headD, writesPC]
    repeat constructor
  all_goals
    left
    cases h
    simp

/-- Of the instructions only WAI writes the wait flag (R36, R164). -/
theorem exec_waiting_kept_or_wai {i : Instr} {s t : State} (h : exec i s = .next t) :
    t.waiting = s.waiting ∨ i = .wai := by
  cases i
  case wai => exact .inr rfl
  all_goals
    left
    cases h
    simp

/-- No instruction uses up what the environment presents (R37, log 6). -/
theorem exec_inputs {i : Instr} {s t : State} (h : exec i s = .next t) : t.inputs = s.inputs := by
  cases i
  all_goals
    cases h
    simp

/-- Settles O46: one lemma a register; that the platform is kept stands in `exec_traced`. -/
theorem onlyNamedInstructionsWriteRegisters : Obligations.OnlyNamedInstructionsWriteRegisters := by
  unfold Obligations.OnlyNamedInstructionsWriteRegisters
  intro i s t h
  exact ⟨(exec_a_kept_or_named h).resolve_left, (exec_b_kept_or_named h).resolve_left,
    (exec_x_kept_or_named h).resolve_left, (exec_sp_kept_or_named h).resolve_left,
    (exec_pc_kept_or_named h).resolve_left, (exec_waiting_kept_or_wai h).resolve_left,
    (exec_traced h).1, exec_inputs h⟩

/-! ### The mask and the wait over one step -/

/-- The fetch of an instruction leaves CCR and the wait flag. -/
theorem fetchInstr_ccr_waiting {s u : State} {i : Instr} (h : fetchInstr s = .ok (i, u)) :
    u.ccr = s.ccr ∧ u.waiting = s.waiting := by
  obtain ⟨row, bus, draws, -, rfl⟩ := fetchInstr_ok h
  exact ⟨rfl, rfl⟩

/-- Settles O57: a reset and an interrupt entry set I, a step in the wait keeps it, and of the instructions only
three clear it. -/
theorem onlyCliTapRtiUnmask : Obligations.OnlyCliTapRtiUnmask := by
  unfold Obligations.OnlyCliTapRtiUnmask
  intro s t h hs ht
  obtain ⟨k, es, -, -, rfl⟩ | ⟨src, -, -, -, rfl⟩ | ⟨-, -, -, -, rfl⟩ | ⟨hruns, i, u, hf, hx⟩ :=
    step_cases h
  · simp at ht
  · simp at ht
  · simp [hs] at ht
  · have hu : u.ccr.i = true := by simp [(fetchInstr_ccr_waiting hf).1, hs]
    exact ⟨hruns, i, u, hf, exec_unmask hx hu ht⟩

/-- Settles O54: a reset and an interrupt entry end the wait, a step in the wait keeps it, and an instruction, which
runs only outside the wait, writes the flag only where it is WAI. -/
theorem waitBeginsWithWaiEndsByEvent : Obligations.WaitBeginsWithWaiEndsByEvent := by
  unfold Obligations.WaitBeginsWithWaiEndsByEvent
  intro s t h
  obtain ⟨k, es, hr, -, rfl⟩ | ⟨src, -, hsrc, -, rfl⟩ | ⟨-, -, hw, -, rfl⟩ | ⟨hruns, i, u, hf, hx⟩ :=
    step_cases h
  · exact ⟨fun _ ht => by simp at ht, fun _ _ => .inl (by simp [hr])⟩
  · exact ⟨fun _ ht => by simp at ht, fun _ _ => .inr (by simp [hsrc])⟩
  · simp [hw]
  · have ⟨_, _, hs, _⟩ := hruns
    refine ⟨fun _ ht => ⟨hruns, u, ?_⟩, fun hs' => by simp [hs] at hs'⟩
    have hu : u.waiting = false := (fetchInstr_ccr_waiting hf).2.trans hs
    rcases exec_waiting_kept_or_wai hx with hw | rfl
    · simp [hw, hu] at ht
    · exact hf

/-! ### Memory over one step -/

/-- The writes among recorded accesses land as stores. -/
theorem landed_eq_storeAll (p : Platform) (es : List Access) (m : Memory) :
    ∃ ws, landed p es m = storeAll p ws m := by
  induction es generalizing m with
  | nil => exact ⟨[], rfl⟩
  | cons e rest ih =>
    cases e with
    | read addr v => exact ih m
    | write addr v =>
      obtain ⟨ws, hws⟩ := ih (if kindAt p addr = .storage then m.write addr.toNat v else m)
      exact ⟨(addr, v) :: ws, hws⟩

/-- What is traced changes memory by stores alone, and no platform. -/
theorem Traced.mem_eq_storeAll {s t : State} (h : Traced s t) :
    t.platform = s.platform ∧ ∃ ws, t.mem = storeAll s.platform ws s.mem := by
  obtain ⟨hp, es, -, hm⟩ := h
  obtain ⟨ws, hws⟩ := landed_eq_storeAll s.platform es s.mem
  exact ⟨hp, ws, hm.trans hws⟩

/-- Accesses carried out again are traced (R281). -/
theorem replay_traced (es : List Access) (s : State) : Traced s (replay es s) := by
  obtain ⟨draws, h⟩ := replay_eq es s
  rw [h]
  exact ⟨rfl, es, rfl, rfl⟩

/-- Whatever a step does, memory afterwards is memory before with some bytes stored, and the platform is the
same: a reset lands the writes completed, an interrupt entry and an instruction those they record. -/
theorem step_mem_eq_storeAll {s t : State} (h : step s = .next t) :
    t.platform = s.platform ∧ ∃ ws, t.mem = storeAll s.platform ws s.mem := by
  obtain ⟨k, es, -, -, rfl⟩ | ⟨src, -, -, -, rfl⟩ | ⟨-, -, -, -, rfl⟩ | ⟨-, i, u, hf, hx⟩ :=
    step_cases h
  · simpa using (replay_traced es (beginStep s)).mem_eq_storeAll
  · exact (takeException_traced src.vector (beginStep s)).mem_eq_storeAll
  · exact (Traced.refl (beginStep s)).mem_eq_storeAll
  · exact ((fetchInstr_traced hf).trans (exec_traced hx)).mem_eq_storeAll

/-- Settles O58: what a step does to memory is a list of stores, and stores keep the canonical form. -/
theorem stepKeepsMemoryCanonical : Obligations.StepKeepsMemoryCanonical := by
  unfold Obligations.StepKeepsMemoryCanonical
  intro s t hs h
  obtain ⟨-, ws, hm⟩ := step_mem_eq_storeAll h
  rw [MemoryCanonical, hm]
  exact storeAll_wf s.platform ws hs

/-- Settles O59: what a step does to memory is a list of stores, and stores change no address that is not
storage. -/
theorem stepKeepsRomAndPlatform : Obligations.StepKeepsRomAndPlatform := by
  unfold Obligations.StepKeepsRomAndPlatform
  intro s t h
  obtain ⟨hp, ws, hm⟩ := step_mem_eq_storeAll h
  exact ⟨hp, fun addr hk => hm ▸ storeAll_read_of_not_storage s.platform ws s.mem hk⟩

/-! ### CCR, D and the state after reset as data -/

/-- The bits of CCR read as a byte, from bit 7 on (R28). -/
theorem CCR.toByte_getLsbD (f : CCR) :
    f.toByte.getLsbD 7 = true ∧ f.toByte.getLsbD 6 = true ∧ f.toByte.getLsbD 5 = f.h ∧
      f.toByte.getLsbD 4 = f.i ∧ f.toByte.getLsbD 3 = f.n ∧ f.toByte.getLsbD 2 = f.z ∧
      f.toByte.getLsbD 1 = f.v ∧ f.toByte.getLsbD 0 = f.c := by
  obtain ⟨h, i, n, z, v, c⟩ := f
  revert h i n z v c
  decide

/-- CCR written from the byte it reads as is unchanged (R28). -/
theorem CCR.ofByte_toByte (f : CCR) : CCR.ofByte f.toByte = f := by
  obtain ⟨-, -, hh, hi, hn, hz, hv, hc⟩ := f.toByte_getLsbD
  rw [CCR.ofByte, hh, hi, hn, hz, hv, hc]

/-- A byte written to CCR is read with bits 7 and 6 set, the others as they were written (R28). -/
theorem CCR.toByte_ofByte (v : Byte) : (CCR.ofByte v).toByte = (v ||| 0xC0) := by
  obtain ⟨h7, h6, h5, h4, h3, h2, h1, h0⟩ := (CCR.ofByte v).toByte_getLsbD
  apply BitVec.eq_of_getLsbD_eq
  intro k hk
  interval_cases k
  all_goals
    simp only [h7, h6, h5, h4, h3, h2, h1, h0]
    simp [CCR.ofByte]

/-- Settles O12: the bits of the byte, and the two round trips. -/
theorem conditionCodeByte : Obligations.ConditionCodeByte := by
  unfold Obligations.ConditionCodeByte
  refine ⟨fun f => ?_, fun v => ⟨rfl, CCR.toByte_ofByte v⟩⟩
  obtain ⟨h7, h6, hh, hi, hn, hz, hv, hc⟩ := f.toByte_getLsbD
  exact ⟨h7, h6, hh, hi, hn, hz, hv, hc, f.ofByte_toByte⟩

/-- Two bytes joined, as a number: the first is the high one (R22, R52). -/
theorem join_toNat (h l : Byte) : (join h l).toNat = h.toNat * 256 + l.toNat := by
  rw [join, BitVec.toNat_append, ← Nat.shiftLeft_add_eq_or_of_lt l.isLt, Nat.shiftLeft_eq]

/-- Settles O13: the writes are the definitions; the value of D is that of two joined bytes, and joining the two
bytes of a word gives the word. -/
theorem accumulatorsAndD : Obligations.AccumulatorsAndD := by
  unfold Obligations.AccumulatorsAndD
  intro s v w
  exact ⟨rfl, rfl, rfl, rfl, join_toNat s.a s.b, rfl, join_hiByte_loByte w⟩

/-- Settles O56: CCR by its bits, the rest by the definition of the state after reset. -/
theorem stateAfterReset : Obligations.StateAfterReset := by
  unfold Obligations.StateAfterReset
  obtain ⟨h7, h6, -⟩ := State.reset.ccr.toByte_getLsbD
  exact ⟨rfl, rfl, rfl, ⟨h7, h6⟩, reset_mem_wf, rfl, rfl, rfl, fun _ => rfl⟩

end Sys2Proof.Machine
end

section
/-! Memory (20_memory.md R52 to R60): accesses by kind of address, the order of a read-modify-write, which bytes an
instruction can change, and where a step is refused (R57). -/

namespace Sys2Proof.Machine

/-! ### Accesses by kind of address -/

/-- The kinds whose reads return what memory holds (R60). -/
theorem AddrKind.holdsByte_iff (k : AddrKind) : k.holdsByte = true ↔ k = .storage ∨ k = .rom := by
  cases k <;> simp [AddrKind.holdsByte]

/-- A byte write leaves every other entry of the memory list, also one above 2^16. -/
theorem memWrite8_read_nat_other (addr : Word) (v : Byte) (s : State) {other : Nat}
    (h : other ≠ addr.toNat) : (memWrite8 addr v s).mem.read other = s.mem.read other := by
  rw [memWrite8_mem]
  split
  · exact Memory.read_write_other _ _ h
  · rfl

/-- Settles O6: the rules of a byte write and of a byte read at a kind that holds a byte, and at one that does
not. -/
theorem accessesByKindOfAddress : Obligations.AccessesByKindOfAddress := by
  unfold Obligations.AccessesByKindOfAddress
  intro s addr v
  refine ⟨fun hk hm => ⟨memWrite8_read_same v hk hm, readValue_memWrite8_same v hk hm⟩,
    fun _ => memWrite8_read_nat_other addr v s, memWrite8_of_not_storage v, rfl,
    fun hk => memRead8_of_holds ((AddrKind.holdsByte_iff _).mpr hk), fun hs hr => ?_⟩
  have hdraw : (kindAt s.platform addr).holdsByte = false := by
    simp [← Bool.not_eq_true, AddrKind.holdsByte_iff, hs, hr]
  exact ⟨_, memRead8_of_draw hdraw⟩

/-! ### Read-modify-write -/

/-- The accesses of a read-modify-write: a read at EA and then a write at EA (R56). -/
theorem unaryMem_bus (op : Byte → CCR → Byte × CCR) (m : MemMode) (s : State) :
    (unaryMem op m s).bus = s.bus ++
      [.read (ea m s) (readValue (ea m s) s),
       .write (ea m s) (op (readValue (ea m s) s) s.ccr).1] := by
  simp [unaryMem]

/-- The memory form of a unary operation and the addressing mode it uses (R170). -/
def UnaryForm.HasMode (u : UnaryForm) (m : MemMode) : Prop :=
  (∃ off, u = .ind off ∧ m = .ind off) ∨ (∃ addr, u = .ext addr ∧ m = .ext addr)

/-- In a memory form each of the ten operations that write is a read-modify-write of the byte at EA. -/
theorem exec_unaryForm {u : UnaryForm} {m : MemMode} (h : u.HasMode m) {f : UnaryForm → Instr}
    (hf : f ∈ [negForm, comForm, lsrForm, rorForm, asrForm, aslForm, rolForm, decForm, incForm, clrForm])
    (s : State) : ∃ op, exec (f u) s = .next (unaryMem op m s) := by
  simp only [List.mem_cons, List.not_mem_nil, or_false] at hf
  obtain ⟨off, rfl, rfl⟩ | ⟨addr, rfl, rfl⟩ := h
  · rcases hf with rfl | rfl | rfl | rfl | rfl | rfl | rfl | rfl | rfl | rfl <;> exact ⟨_, rfl⟩
  · rcases hf with rfl | rfl | rfl | rfl | rfl | rfl | rfl | rfl | rfl | rfl <;> exact ⟨_, rfl⟩

/-- In a memory form TST is a test of the byte at EA. -/
theorem exec_tstForm {u : UnaryForm} {m : MemMode} (h : u.HasMode m) (s : State) :
    exec (tstForm u) s = .next (testMem tstOp m s) := by
  obtain ⟨off, rfl, rfl⟩ | ⟨addr, rfl, rfl⟩ := h
  · rfl
  · rfl

/-- Settles O60: the ten operations are `unaryMem`, whose record is the read and the write; TST is `testMem`,
whose record is the read. -/
theorem readModifyWriteAccesses : Obligations.ReadModifyWriteAccesses := by
  unfold Obligations.ReadModifyWriteAccesses
  intro s u m f h
  refine ⟨fun hf => ?_, _, _, exec_tstForm h s, rfl⟩
  obtain ⟨op, hop⟩ := exec_unaryForm h hf s
  exact ⟨_, _, _, hop, unaryMem_bus op m s⟩

/-! ### Which bytes an instruction can change -/

theorem stackBelow_one (sp : Word) : stackBelow sp 1 = [sp] := by
  simp [stackBelow]

theorem stackBelow_two (sp : Word) : stackBelow sp 2 = [sp, sp - 1] := by
  simp [stackBelow, List.range_succ]

theorem stackBelow_seven (sp : Word) :
    stackBelow sp 7 = [sp, sp - 1, sp - 2, sp - 3, sp - 4, sp - 5, sp - 6] := by
  simp [stackBelow, List.range_succ]

/-- Memory goes from that of `s` to that of `t` by one store at each of these addresses, in order. -/
def StoresAt (addrs : List Word) (s t : State) : Prop :=
  ∃ ws : List (Word × Byte), ws.map Prod.fst = addrs ∧ t.mem = storeAll s.platform ws s.mem

/-- Stores change no byte but at their addresses. -/
theorem StoresAt.read_other {addrs : List Word} {s t : State} (h : StoresAt addrs s t) {addr : Word}
    (ha : addr ∉ addrs) : t.mem.read addr.toNat = s.mem.read addr.toNat := by
  obtain ⟨ws, rfl, hm⟩ := h
  rw [hm, storeAll_read_other _ _ _ ha]

theorem storesAt_nil {s t : State} (h : t.mem = s.mem) : StoresAt [] s t := ⟨[], rfl, h⟩

theorem unaryMem_storesAt (op : Byte → CCR → Byte × CCR) (m : MemMode) (s : State) :
    StoresAt [ea m s] s (unaryMem op m s) :=
  ⟨_, rfl, memWrite8_storeAll (ea m s) _ (memRead8 (ea m s) s).2⟩

theorem store8_storesAt (v : Byte) (m : MemMode) (s : State) : StoresAt [ea m s] s (store8 v m s) :=
  ⟨_, rfl, memWrite8_storeAll (ea m s) v s⟩

theorem store16_storesAt (v : Word) (m : MemMode) (s : State) :
    StoresAt (wordAt (ea m s)) s (store16 v m s) :=
  ⟨_, rfl, memWrite16_storeAll (ea m s) v s⟩

theorem push8_storesAt (v : Byte) (s : State) : StoresAt (stackBelow s.sp 1) s (push8 v s) :=
  stackBelow_one s.sp ▸ ⟨_, rfl, push8_storeAll v s⟩

theorem push16_storesAt (v : Word) (s : State) : StoresAt (stackBelow s.sp 2) s (push16 v s) :=
  stackBelow_two s.sp ▸ ⟨_, rfl, push16_storeAll v s⟩

theorem stackAll_storesAt (s : State) : StoresAt (stackBelow s.sp 7) s (stackAll s) :=
  stackBelow_seven s.sp ▸ ⟨_, rfl, stackAll_mem s⟩

/-- What an instruction does to memory is one store at each of the addresses it is said to store to. -/
theorem exec_storesAt {i : Instr} {s t : State} (h : exec i s = .next t) :
    StoresAt (storesTo i s) s t := by
  cases i
  case negInd | comInd | lsrInd | rorInd | asrInd | aslInd | rolInd | decInd | incInd | clrInd |
      negExt | comExt | lsrExt | rorExt | asrExt | aslExt | rolExt | decExt | incExt | clrExt =>
    cases h
    exact unaryMem_storesAt _ _ s
  case staaDir | staaInd | staaExt | stabDir | stabInd | stabExt =>
    cases h
    exact store8_storesAt _ _ s
  case stdDir | stdInd | stdExt | stxDir | stxInd | stxExt | stsDir | stsInd | stsExt =>
    cases h
    exact store16_storesAt _ _ s
  case psha | pshb =>
    cases h
    exact push8_storesAt _ s
  case pshx | bsr | jsrDir | jsrInd | jsrExt =>
    cases h
    exact push16_storesAt _ s
  case wai =>
    cases h
    exact stackAll_storesAt s
  case swi =>
    cases h
    obtain ⟨ws, hws, hm⟩ := stackAll_storesAt s
    exact ⟨ws, hws, (enterHandler_mem _ _).trans hm⟩
  all_goals
    cases h
    exact storesAt_nil (by simp)

/-- Settles O47: what an instruction does to memory is a list of stores at the addresses of `storesTo`. -/
theorem storesReachOnlyTheirAddresses : Obligations.StoresReachOnlyTheirAddresses := by
  unfold Obligations.StoresReachOnlyTheirAddresses
  intro i s t h addr ha
  exact (exec_storesAt h).read_other ha

/-! ### Where a step is refused -/

/-- PC, X or SP points at the address (R57). -/
def PointsAt (s : State) (addr : Word) : Prop := addr = s.pc ∨ addr = s.x ∨ addr = s.sp

/-- What a boundary without reset does accesses the address. -/
def BoundaryAccesses (asserted : List SourceName) (s : State) (addr : Word) : Prop :=
  ∃ t, runBoundary asserted s = .next t ∧ addr ∈ t.bus.map accessAddr

theorem pointerAtEffect_some {s : State} {addr : Word} (h : pointerAtEffect s = some addr) :
    hasReadEffect s.platform addr = true ∧ PointsAt s addr := by
  refine ⟨List.find?_some h, ?_⟩
  simpa [PointsAt] using List.mem_of_find?_eq_some h

theorem exists_pointerAtEffect {s : State} {addr : Word} (hp : PointsAt s addr)
    (he : hasReadEffect s.platform addr = true) : ∃ first, pointerAtEffect s = some first := by
  rw [← Option.isSome_iff_exists, pointerAtEffect, List.find?_isSome]
  exact ⟨addr, by simpa [PointsAt] using hp, he⟩

theorem accessAtEffect_some {t : State} {addr : Word} (h : accessAtEffect t = some addr) :
    hasReadEffect t.platform addr = true ∧ addr ∈ t.bus.map accessAddr :=
  ⟨List.find?_some h, List.mem_of_find?_eq_some h⟩

theorem accessAtEffect_none {t : State} {addr : Word} (h : accessAtEffect t = none)
    (ha : addr ∈ t.bus.map accessAddr) : hasReadEffect t.platform addr = false := by
  simpa using List.find?_eq_none.mp h addr ha

theorem exists_accessAtEffect {t : State} {addr : Word} (ha : addr ∈ t.bus.map accessAddr)
    (he : hasReadEffect t.platform addr = true) : ∃ first, accessAtEffect t = some first := by
  rw [← Option.isSome_iff_exists, accessAtEffect, List.find?_isSome]
  exact ⟨addr, ha, he⟩

theorem runBoundary_of_pointer {asserted : List SourceName} {s : State} {addr : Word}
    (h : pointerAtEffect s = some addr) :
    runBoundary asserted s = .refused (.busActivityUnknown addr) := by
  simp [runBoundary, h]

/-- Before the guard a boundary without reset is refused only for a pointer: no instruction refuses (R251). -/
theorem runBoundary_refused {asserted : List SourceName} {s : State} {e : Refusal}
    (h : runBoundary asserted s = .refused e) :
    ∃ addr, pointerAtEffect s = some addr ∧ e = .busActivityUnknown addr := by
  unfold runBoundary at h
  cases hq : pointerAtEffect s with
  | some addr =>
    simp only [hq, Host.Outcome.refused.injEq] at h
    exact ⟨addr, rfl, h.symm⟩
  | none =>
    cases hs : eligibleSource asserted s with
    | some src => simp [hq, hs] at h
    | none =>
      cases hw : s.waiting with
      | true => simp [hq, hs, hw] at h
      | false =>
        simp only [hq, hs, hw, Bool.false_eq_true, if_false, runInstruction] at h
        cases hf : fetchInstr s with
        | error op => simp [hf] at h
        | ok r =>
          obtain ⟨t, ht⟩ := exec_next r.1 r.2
          simp [hf, ht] at h

/-- A boundary without reset, guarded, is refused only for a pointer or an access at an address whose read has a
side effect (R57, log 11). -/
theorem guardBus_runBoundary_refused {asserted : List SourceName} {s : State} {e : Refusal}
    (h : guardBus (runBoundary asserted s) = .refused e) :
    ∃ addr, e = .busActivityUnknown addr ∧ hasReadEffect s.platform addr = true ∧
      (PointsAt s addr ∨ BoundaryAccesses asserted s addr) := by
  obtain h | ⟨t, addr, ht, ha, rfl⟩ := guardBus_refused h
  · obtain ⟨addr, ha, rfl⟩ := runBoundary_refused h
    obtain ⟨he, hp⟩ := pointerAtEffect_some ha
    exact ⟨addr, rfl, he, .inl hp⟩
  · obtain ⟨he, hmem⟩ := accessAtEffect_some ha
    exact ⟨addr, rfl, (runBoundary_traced ht).1 ▸ he, .inr ⟨t, ht, hmem⟩⟩

/-- A boundary without reset that accesses an address whose read has a side effect is refused at the first such
access. -/
theorem guardBus_of_access {asserted : List SourceName} {s : State} {addr : Word}
    (ha : BoundaryAccesses asserted s addr) (he : hasReadEffect s.platform addr = true) :
    ∃ first, BoundaryAccesses asserted s first ∧
      guardBus (runBoundary asserted s) = .refused (.busActivityUnknown first) := by
  obtain ⟨t, ht, hmem⟩ := ha
  obtain ⟨first, hfirst⟩ := exists_accessAtEffect hmem ((runBoundary_traced ht).1.symm ▸ he)
  exact ⟨first, ⟨t, ht, (accessAtEffect_some hfirst).2⟩, by simp [ht, guardBus, hfirst]⟩

/-- Unless reset is asserted at the boundary itself, what refuses the boundary refuses the step: without reset it is
the step, and a reset that cuts it is refused with it (R281, log 8). -/
theorem step_of_boundary_refused {s : State} {e : Refusal} (hr : (presented s).reset ≠ some 0)
    (h : guardBus (runBoundary (presented s).asserted (beginStep s)) = .refused e) :
    step s = .refused e := by
  unfold step stepBoundary
  match hreset : (presented s).reset with
  | none => simpa [hreset] using h
  | some 0 => exact absurd hreset hr
  | some (k + 1) =>
    simp [hreset, resetAfter, completedAccesses_of_refused (Nat.succ_ne_zero k) h, guardBus]

/-- The accesses completed when a reset cuts a boundary are at no address whose read has a side effect, but for
the fetch of an unassigned opcode at PC (R57, R281). -/
theorem completedAccesses_at_effect {k : Nat} {asserted : List SourceName} {s : State}
    {es : List Access} (hbus : s.bus = []) (h : completedAccesses k asserted s = .ok es) {addr : Word}
    (ha : addr ∈ es.map accessAddr) (he : hasReadEffect s.platform addr = true) : addr = s.pc := by
  by_cases hk : k = 0
  · subst hk
    cases h
    simp at ha
  · cases hg : guardBus (runBoundary asserted s) with
    | next t =>
      rw [completedAccesses_of_next hk hg, Except.ok.injEq] at h
      subst h
      obtain ⟨ht, hnone⟩ := guardBus_next.mp hg
      rw [List.map_take] at ha
      have hno := accessAtEffect_none hnone (List.mem_of_mem_take ha)
      rw [(runBoundary_traced ht).1, he] at hno
      cases hno
    | fault e =>
      rw [completedAccesses_of_fault hk hg, Except.ok.injEq] at h
      subst h
      rw [List.map_take] at ha
      simpa [hbus, accessAddr] using List.mem_of_mem_take ha
    | refused e => simp [completedAccesses_of_refused hk hg] at h

/-- The accesses of a reset event: the two bytes of its vector (R280). -/
theorem resetEvent_accesses (s : State) :
    (resetEvent s).bus.map accessAddr =
      s.bus.map accessAddr ++ [s.platform.vecReset, s.platform.vecReset + 1] := by
  simp [resetEvent, memRead16, accessAddr]

/-- The accesses of a step of reset: those completed and the two bytes of the vector. -/
theorem resetEvent_replay_accesses (es : List Access) (s : State) :
    (resetEvent (replay es s)).bus.map accessAddr =
      s.bus.map accessAddr ++ es.map accessAddr ++
        [s.platform.vecReset, s.platform.vecReset + 1] := by
  obtain ⟨draws, h⟩ := replay_eq es s
  rw [resetEvent_accesses, h, List.map_append]

/-- Before the guard a reset is refused only where the boundary it cuts is (log 8, log 11). -/
theorem resetAfter_refused {k : Nat} {asserted : List SourceName} {s : State} {e : Refusal}
    (h : resetAfter k asserted s = .refused e) : guardBus (runBoundary asserted s) = .refused e := by
  unfold resetAfter at h
  by_cases hk : k = 0
  · simp [hk] at h
  · cases hg : guardBus (runBoundary asserted s) with
    | next t => simp [completedAccesses_of_next hk hg] at h
    | fault e => simp [completedAccesses_of_fault hk hg] at h
    | refused e' => simpa [completedAccesses_of_refused hk hg] using h

/-- A reset, guarded, is refused where the boundary it cuts is, or at the fetch of an unassigned opcode, or at its
vector (R57, R280, R281). -/
theorem guardBus_resetAfter_refused {k : Nat} {asserted : List SourceName} {s : State} {e : Refusal}
    (hbus : s.bus = []) (h : guardBus (resetAfter k asserted s) = .refused e) :
    ∃ addr, e = .busActivityUnknown addr ∧ hasReadEffect s.platform addr = true ∧
      (PointsAt s addr ∨ BoundaryAccesses asserted s addr ∨
        addr = s.platform.vecReset ∨ addr = s.platform.vecReset + 1) := by
  obtain h | ⟨t, addr, ht, ha, rfl⟩ := guardBus_refused h
  · obtain ⟨addr, rfl, he, hat⟩ := guardBus_runBoundary_refused (resetAfter_refused h)
    exact ⟨addr, rfl, he, hat.imp_right .inl⟩
  · obtain ⟨es, hes, rfl⟩ := resetAfter_next ht
    obtain ⟨he, hmem⟩ := accessAtEffect_some ha
    rw [resetEvent_platform, (replay_traced es s).1] at he
    refine ⟨addr, rfl, he, ?_⟩
    simp only [resetEvent_replay_accesses, hbus, List.map_nil, List.nil_append, List.mem_append,
      List.mem_cons, List.not_mem_nil, or_false] at hmem
    exact hmem.imp (fun hcut => .inl (completedAccesses_at_effect hbus hes hcut he)) .inr

/-- A refused step names an address whose read has a side effect: one PC, X or SP points at, one the boundary
accesses, or one of the reset vector where reset is asserted (R57, log 11). -/
theorem step_refused {s : State} {e : Refusal} (h : step s = .refused e) :
    ∃ addr, e = .busActivityUnknown addr ∧ hasReadEffect s.platform addr = true ∧
      (PointsAt s addr ∨ BoundaryAccesses (presented s).asserted (beginStep s) addr ∨
        (presented s).reset ≠ none ∧
          (addr = s.platform.vecReset ∨ addr = s.platform.vecReset + 1)) := by
  unfold step stepBoundary at h
  cases hr : (presented s).reset with
  | none =>
    simp only [hr] at h
    obtain ⟨addr, rfl, he, hat⟩ := guardBus_runBoundary_refused h
    exact ⟨addr, rfl, he, hat.imp_right .inl⟩
  | some k =>
    simp only [hr] at h
    obtain ⟨addr, rfl, he, hat⟩ := guardBus_resetAfter_refused rfl h
    exact ⟨addr, rfl, he, hat.imp_right (.imp_right (.intro (Option.some_ne_none k)))⟩

/-- Settles O50: `step_refused` for where a refusal comes from, and a boundary that is refused for a pointer or an
access refuses the step. -/
theorem refusedOnlyAtReadEffects : Obligations.RefusedOnlyAtReadEffects := by
  unfold Obligations.RefusedOnlyAtReadEffects
  intro s
  refine ⟨fun e h => step_refused h, fun hr hpoint => ?_, fun hr haccess => ?_, fun hno e h => ?_⟩
  · obtain ⟨addr, hp, he⟩ := hpoint
    obtain ⟨first, hfirst⟩ := exists_pointerAtEffect (s := beginStep s) hp he
    refine ⟨first, (pointerAtEffect_some hfirst).2, step_of_boundary_refused hr ?_⟩
    rw [runBoundary_of_pointer hfirst]
    rfl
  · obtain ⟨addr, ha, he⟩ := haccess
    obtain ⟨first, hat, hrefused⟩ := guardBus_of_access ha he
    exact ⟨first, hat, step_of_boundary_refused hr hrefused⟩
  · obtain ⟨addr, -, he, -⟩ := step_refused h
    simp [hno addr] at he

end Sys2Proof.Machine
end

section
/-! Encoding and operand forms (30_encoding.md R80 to R97): the decoder and the encoder are the two readings of
one relation between first bytes, operand bytes and instructions; which first bytes have a row, and how regular
the rows are; effective addresses and operand values. -/

namespace Sys2Proof

/-! ### Operand bytes -/

/-- The operand bytes that make an instruction in this form: none, one, or two with the most significant first
(R81, R84, R86). -/
inductive Form.Makes : Form → List Byte → Instr → Prop
  | none (i : Instr) : Makes (.none i) [] i
  | byte (g : Byte → Instr) (b : Byte) : Makes (.byte g) [b] (g b)
  | word (g : Word → Instr) (w : Word) : Makes (.word g) [hiByte w, loByte w] (g w)

/-- The bytes that make an instruction are taken for it, whatever follows them. -/
theorem Form.Makes.takeOperands_append {f : Form} {ops : List Byte} {i : Instr} (h : f.Makes ops i)
    (rest : List Byte) : takeOperands f (ops ++ rest) = some (i, rest) := by
  cases h with
  | none i => rfl
  | byte g b => rfl
  | word g w => simp [takeOperands]

/-- What a form takes are bytes that make the instruction it answers. -/
theorem exists_makes_of_takeOperands {f : Form} {bs rest : List Byte} {i : Instr}
    (h : takeOperands f bs = some (i, rest)) : ∃ ops, f.Makes ops i ∧ bs = ops ++ rest := by
  cases f with
  | none j =>
    cases h
    exact ⟨[], .none i, rfl⟩
  | byte g =>
    match bs, h with
    | b :: _, rfl => exact ⟨[b], .byte g b, rfl⟩
  | word g =>
    match bs, h with
    | b1 :: b2 :: _, rfl =>
      exact ⟨[b1, b2], by simpa using Form.Makes.word g (join b1 b2), rfl⟩

/-- Two bytes are enough for every form. -/
theorem exists_takeOperands_of_two (f : Form) (b1 b2 : Byte) (rest : List Byte) :
    ∃ i left, takeOperands f (b1 :: b2 :: rest) = some (i, left) := by
  cases f with
  | none i => exact ⟨i, _, rfl⟩
  | byte g => exact ⟨g b1, _, rfl⟩
  | word g => exact ⟨g (join b1 b2), _, rfl⟩

/-! ### Encoding and decoding read the same table -/

theorem byte_eq_ofNat_nibbles (op : Byte) :
    op = BitVec.ofNat 8 (16 * (op.toNat / 16) + op.toNat % 16) := by
  rw [Nat.div_add_mod, BitVec.ofNat_toNat, BitVec.setWidth_eq]

/-- Every instruction has a row of TABLE 8 at its first byte, and its other bytes make it in that row's form:
the encoder, constructor by constructor (R90). -/
theorem exists_row_of_encode (i : Instr) :
    ∃ op ops row, encode i = op :: ops ∧ opcodeRow op = some row ∧ row.form.Makes ops i := by
  cases i <;> exact ⟨_, _, _, rfl, rfl, by constructor⟩

/-- What a row of TABLE 8 makes of operand bytes is encoded as its opcode and these bytes: the table, column by
column and row by row (R90). -/
theorem encode_of_row {op : Byte} {row : OpRow} {ops : List Byte} {i : Instr}
    (hrow : opcodeRow op = some row) (hm : row.form.Makes ops i) : encode i = op :: ops := by
  rw [byte_eq_ofNat_nibbles op]
  simp only [opcodeRow, opcodeRow0, opcodeRow1, opcodeRow2, opcodeRow3, opcodeRow4, opcodeRow5,
    opcodeRow6, opcodeRow7, opcodeRow8, opcodeRow9, opcodeRowA, opcodeRowB, opcodeRowC, opcodeRowD,
    opcodeRowE, opcodeRowF] at hrow
  generalize op.toNat / 16 = hi, op.toNat % 16 = lo at hrow ⊢
  split at hrow
  case h_17 => cases hrow
  all_goals split at hrow <;> cases hrow <;> cases hm <;> rfl

/-- The encoder is TABLE 8 read from the instruction (R80, R90). -/
theorem encode_eq_cons_iff {i : Instr} {op : Byte} {ops : List Byte} :
    encode i = op :: ops ↔ ∃ row, opcodeRow op = some row ∧ row.form.Makes ops i := by
  refine ⟨fun h => ?_, fun ⟨_, hrow, hm⟩ => encode_of_row hrow hm⟩
  obtain ⟨_, _, row, he, hrow, hm⟩ := exists_row_of_encode i
  cases h.symm.trans he
  exact ⟨row, hrow, hm⟩

/-- The decoder is TABLE 8 read from the bytes (R80, R93). -/
theorem decode_eq_ok_iff {bs rest : List Byte} {i : Instr} :
    decode bs = .ok (i, rest) ↔
      ∃ op ops row, bs = op :: (ops ++ rest) ∧ opcodeRow op = some row ∧ row.form.Makes ops i := by
  constructor
  · intro h
    obtain ⟨op, _, row, rfl, hrow, ht⟩ := decode_ok h
    obtain ⟨ops, hm, rfl⟩ := exists_makes_of_takeOperands ht
    exact ⟨op, ops, row, rfl, hrow, hm⟩
  · rintro ⟨op, ops, row, rfl, hrow, hm⟩
    rw [decode_assigned hrow, hm.takeOperands_append]

/-- Decoding and encoding are inverse: an instruction is decoded from its encoding and from nothing else. -/
theorem decode_eq_ok_iff_eq_encode {bs rest : List Byte} {i : Instr} :
    decode bs = .ok (i, rest) ↔ bs = encode i ++ rest := by
  rw [decode_eq_ok_iff]
  constructor
  · rintro ⟨op, ops, row, rfl, hrow, hm⟩
    rw [encode_of_row hrow hm, List.cons_append]
  · rintro rfl
    obtain ⟨op, ops, row, he, hrow, hm⟩ := exists_row_of_encode i
    exact ⟨op, ops, row, by rw [he, List.cons_append], hrow, hm⟩

/-- Settles O1: decoding and encoding are inverse. -/
theorem decodeOfEncodeIsTheInstruction : Obligations.DecodeOfEncodeIsTheInstruction := by
  unfold Obligations.DecodeOfEncodeIsTheInstruction
  exact fun _ _ => decode_eq_ok_iff_eq_encode.mpr rfl

/-- Settles O2: decoding and encoding are inverse. -/
theorem decodedBytesAreTheEncoding : Obligations.DecodedBytesAreTheEncoding := by
  unfold Obligations.DecodedBytesAreTheEncoding
  exact fun _ _ _ => decode_eq_ok_iff_eq_encode.mp

/-- Settles O5: each word is the encoding of its instruction, and decoding and encoding are inverse. -/
theorem wordsOfTheTableDecode : Obligations.WordsOfTheTableDecode := by
  unfold Obligations.WordsOfTheTableDecode
  simp only [decode_eq_ok_iff_eq_encode]
  decide

/-! ### Which first bytes decode -/

/-- A first byte is refused as unassigned exactly when it has no row (R91). -/
theorem decode_eq_unassigned_iff (op : Byte) (rest : List Byte) :
    decode (op :: rest) = .error (.unassigned op) ↔ opcodeRow op = none := by
  refine ⟨fun h => ?_, fun h => decode_unassigned h rest⟩
  cases hrow : opcodeRow op with
  | none => rfl
  | some row =>
    rw [decode_assigned hrow] at h
    cases ht : takeOperands row.form rest <;> simp [ht] at h

/-- A first byte with a row decodes where two bytes follow it (R93). -/
theorem exists_decode_of_two {op : Byte} (h : opcodeRow op ≠ none) (b1 b2 : Byte) (rest : List Byte) :
    ∃ i left, decode (op :: b1 :: b2 :: rest) = .ok (i, left) := by
  obtain ⟨row, hrow⟩ := Option.ne_none_iff_exists'.mp h
  obtain ⟨i, left, ht⟩ := exists_takeOperands_of_two row.form b1 b2 rest
  exact ⟨i, left, by rw [decode_assigned hrow, ht]⟩

/-- Settles O3: the first bytes without a row are the 36. -/
theorem decoderRejectsExactlyTheUnassigned : Obligations.DecoderRejectsExactlyTheUnassigned := by
  unfold Obligations.DecoderRejectsExactlyTheUnassigned
  intro op b1 b2 rest
  rw [← Machine.opcodeRow_eq_none_iff]
  exact ⟨decode_eq_unassigned_iff op rest, fun h => exists_decode_of_two h b1 b2 rest⟩

/-! ### The regularity of the table -/

/-- The mode the high nibble of an opcode gives, BSR at 8D apart (R89, R93). -/
def columnMode (op : Byte) : Mode :=
  if op = 0x8D then .rel
  else if op.toNat / 16 ∈ [0, 1, 3, 4, 5] then .inher
  else if op.toNat / 16 = 2 then .rel
  else if op.toNat / 16 ∈ [6, 10, 14] then .indxd
  else if op.toNat / 16 ∈ [7, 11, 15] then .extnd
  else if op.toNat / 16 ∈ [8, 12] then .immed
  else .dir

/-- The length a mode gives; for IMMED it is that of the opcode's register (R83, R84, R93). -/
def modeLength (op : Byte) (m : Mode) : Nat :=
  match m with
  | .inher => 1
  | .rel => 2
  | .dir => 2
  | .indxd => 2
  | .extnd => 3
  | .immed => if op ∈ [0x83, 0x8C, 0x8E, 0xC3, 0xCC, 0xCE] then 3 else 2

theorem opcodeRow_mode : ∀ op, ∀ row ∈ opcodeRow op, row.mode = columnMode op := by
  decide

theorem opcodeRow_length : ∀ op, ∀ row ∈ opcodeRow op, formLength row.form = modeLength op row.mode := by
  decide

/-- The DIR, INDXD and EXTND forms of one operation: one mnemonic, and DIR one cycle fewer than the other two
(R291). -/
theorem opcodeRow_cycles : ∀ op : Byte, op.toNat / 16 = 9 ∨ op.toNat / 16 = 13 →
    ∀ d ∈ opcodeRow op, ∀ x ∈ opcodeRow (op + 0x10), ∀ e ∈ opcodeRow (op + 0x20),
      d.mnemonic = e.mnemonic ∧ x.mnemonic = e.mnemonic ∧ d.cycles + 1 = e.cycles ∧
        x.cycles = e.cycles := by
  decide

/-- Settles O4: three facts about the 256 first bytes. -/
theorem theTableIsRegular : Obligations.TheTableIsRegular := by
  unfold Obligations.TheTableIsRegular
  exact ⟨fun op row h => ⟨opcodeRow_mode op row h, opcodeRow_length op row h⟩,
    fun op d x e hop hd hx he => opcodeRow_cycles op hop d hd x hx e he⟩

namespace Machine

/-! ### Effective addresses and operands -/

theorem zext16_toNat (v : Byte) : (zext16 v).toNat = v.toNat :=
  BitVec.toNat_setWidth_of_le (by decide)

theorem ea_ind_toNat (off : Byte) (s : State) :
    (ea (.ind off) s).toNat = (s.x.toNat + off.toNat) % 65536 := by
  simp only [ea, BitVec.toNat_add, zext16_toNat, Nat.reducePow]

/-- Reading an 8-bit operand leaves all but the record of accesses and the count of draws (R55, R62). -/
theorem operand8_eq_withTrace (o : Operand8) (s : State) :
    (operand8 o s).2 = withTrace s (operand8 o s).2.bus (operand8 o s).2.draws := by
  cases o <;> rfl

/-- Reading a 16-bit operand leaves all but the record of accesses and the count of draws (R55, R62). -/
theorem operand16_eq_withTrace (o : Operand16) (s : State) :
    (operand16 o s).2 = withTrace s (operand16 o s).2.bus (operand16 o s).2.draws := by
  cases o <;> rfl

/-- Settles O14: the addresses as numbers, the operand values by definition, and reads that leave the state. -/
theorem operandForms : Obligations.OperandForms := by
  unfold Obligations.OperandForms
  intro s d off v addr w m o q
  exact ⟨zext16_toNat d, ea_ind_toNat off s, rfl, rfl, rfl, rfl, rfl,
    ⟨_, _, operand8_eq_withTrace o s⟩, ⟨_, _, operand16_eq_withTrace q s⟩⟩

end Machine
end Sys2Proof
end

section
/-! The inherent register and condition-code instructions (40_inherent_0x_1x.md R110 to R128), and what the
comparing branches (41_branches_2x.md R133 to R146) find after a subtraction. -/

namespace Sys2Proof.Machine

/-! ### Rows of the table -/

/-- A form takes as many operand bytes as its length leaves beside the opcode (R81, R93). -/
theorem length_of_makes {f : Form} {ops : List Byte} {i : Instr} (h : f.Makes ops i) :
    ops.length + 1 = formLength f := by
  cases h <;> rfl

/-- An instruction has the row its opcode has in TABLE 8, where that row's form makes it of operand bytes (R90). -/
theorem hasRow_of_makes {op : Byte} {mnemonic : String} {mode : Mode} {cycles : Nat} {f : Form}
    {ops : List Byte} {i : Instr} (hrow : opcodeRow op = some ⟨mnemonic, mode, cycles, f⟩)
    (hm : f.Makes ops i) : HasRow i op mnemonic mode cycles (formLength f) := by
  have he : encode i = op :: ops := encode_of_row hrow hm
  exact ⟨by rw [he]; rfl, by rw [he, List.length_cons, length_of_makes hm], by rw [hrow]; rfl⟩

/-- An instruction without operand bytes has the row TABLE 8 gives for it (R90). -/
theorem hasRow_of_none {op : Byte} {mnemonic : String} {mode : Mode} {cycles : Nat} {i : Instr}
    (hrow : opcodeRow op = some ⟨mnemonic, mode, cycles, .none i⟩) : HasRow i op mnemonic mode cycles 1 :=
  hasRow_of_makes hrow (.none i)

/-! ### Flags as the rules write them -/

theorem CCR.withZ_eq (f : CCR) (r : Word) : f.withZ r = { f with z := decide (r = 0) } := rfl

/-- N of a byte is its bit 7 (R31). -/
theorem CCR.withNZ_byte (f : CCR) (r : Byte) :
    f.withNZ r = { f with n := r.getLsbD 7, z := decide (r = 0), v := false } := rfl

/-- CCR read as a byte has bits 7 and 6 set, so it is at least $C0 (R28, R114). -/
theorem CCR.le_toByte (f : CCR) : 0xC0 ≤ f.toByte.toNat := by
  have hset : f.toByte = f.toByte ||| 0xC0 := by
    simpa only [CCR.ofByte_toByte] using CCR.toByte_ofByte f.toByte
  rw [hset, BitVec.toNat_or]
  exact Nat.right_le_or

/-! ### An immediate operand -/

/-- An operation on an accumulator and a value at hand writes the accumulator and CCR. -/
theorem accOp_imm (op : Byte → Byte → CCR → Byte × CCR) (r : Acc) (v : Byte) (s : State) :
    accOp op r (.imm v) s =
      { s.setAcc r (op (s.acc r) v s.ccr).1 with ccr := (op (s.acc r) v s.ccr).2 } := rfl

/-- The same with the result discarded writes CCR. -/
theorem accTest_imm (op : Byte → Byte → CCR → Byte × CCR) (r : Acc) (v : Byte) (s : State) :
    accTest op r (.imm v) s = { s with ccr := (op (s.acc r) v s.ccr).2 } := rfl

/-! ### NOP, the flag instructions, transfers and counting -/

/-- Settles O15: each is its definition, with its row. -/
theorem nopAndFlagInstructions : Obligations.NopAndFlagInstructions := by
  unfold Obligations.NopAndFlagInstructions
  exact ⟨fun s => ⟨rfl, rfl, rfl, rfl, rfl, rfl, rfl⟩,
    hasRow_of_none rfl, hasRow_of_none rfl, hasRow_of_none rfl, hasRow_of_none rfl,
    hasRow_of_none rfl, hasRow_of_none rfl, hasRow_of_none rfl⟩

/-- Settles O17: TAP writes the bits of A, and the byte TPA writes is at least $C0 and reads back as CCR. -/
theorem transfersOfTheConditionCodes : Obligations.TransfersOfTheConditionCodes := by
  unfold Obligations.TransfersOfTheConditionCodes
  exact ⟨fun s => ⟨rfl, _, rfl, rfl, s.ccr.le_toByte, s.ccr.ofByte_toByte⟩,
    hasRow_of_none rfl, hasRow_of_none rfl⟩

/-- Settles O18: the new X is zero exactly where the old one was minus one, or one. -/
theorem countingX : Obligations.CountingX := by
  unfold Obligations.CountingX
  refine ⟨fun s => ⟨?_, ?_⟩, hasRow_of_none rfl, hasRow_of_none rfl⟩
  · have hz : s.x + 1 = 0 ↔ s.x = 0xFFFF := add_eq_zero_iff_eq_neg
    simp only [exec, execInx, CCR.withZ_eq, hz]
  · have hz : s.x - 1 = 0 ↔ s.x = 0x0001 := sub_eq_zero
    simp only [exec, execDex, CCR.withZ_eq, hz]

/-- Settles O19: each is an operation on an accumulator with the other accumulator as the value at hand. -/
theorem accumulatorToAccumulator : Obligations.AccumulatorToAccumulator := by
  unfold Obligations.AccumulatorToAccumulator
  refine ⟨fun s => ⟨?_, ?_, ?_, ?_, ?_⟩, hasRow_of_none rfl, hasRow_of_none rfl, hasRow_of_none rfl,
    hasRow_of_none rfl, hasRow_of_none rfl⟩
  · simp only [exec, execSba, accOp_imm, subOp, CCR.withNZVC, State.setAcc_a_eq, State.acc_a]
  · simp only [exec, execCba, accTest_imm, subOp, CCR.withNZVC, State.acc_a]
  · simp only [exec, execAba, accOp_imm, addOp, CCR.withHNZVC, State.setAcc_a_eq, State.acc_a]
  · simp only [exec, execTab, accOp_imm, loadOp, CCR.withNZ_byte, State.setAcc_b_eq]
  · simp only [exec, execTba, accOp_imm, loadOp, CCR.withNZ_byte, State.setAcc_a_eq]

/-! ### D -/

theorem State.d_setD (s : State) (v : Word) : (s.setD v).d = v := join_hiByte_loByte v

/-- The low bits of D are those of B (R22). -/
theorem State.d_getLsbD_of_lt (s : State) {k : Nat} (h : k < 8) : s.d.getLsbD k = s.b.getLsbD k :=
  BitVec.getLsbD_append.trans (by simp [h])

/-- The high bits of D are those of A (R22). -/
theorem State.d_getLsbD_add (s : State) (k : Nat) : s.d.getLsbD (k + 8) = s.a.getLsbD k :=
  BitVec.getLsbD_append.trans (by simp)

/-- A word is zero exactly when its number is. -/
theorem decide_eq_zero_toNat {w : Nat} (r : BitVec w) : decide (r = 0) = decide (r.toNat = 0) := by
  rw [decide_eq_decide, ← BitVec.toNat_inj, BitVec.ofNat_eq_ofNat, BitVec.toNat_ofNat, Nat.zero_mod]

/-- LSRD halves D; a zero enters bit 15, so N is 0 and V is C (R111). -/
theorem shiftRightD_spec (s : State) :
    (shiftRightD s).d.toNat = s.d.toNat / 2 ∧
      (shiftRightD s).ccr = { s.ccr with n := false, z := decide (s.d.toNat / 2 = 0),
                                         v := s.b.getLsbD 0, c := s.b.getLsbD 0 } := by
  have hr : (s.d >>> 1).toNat = s.d.toNat / 2 := by simp [Nat.shiftRight_eq_div_pow]
  have hn : (s.d >>> 1).msb = false := by simp [BitVec.msb_ushiftRight]
  have hc : s.d.getLsbD 0 = s.b.getLsbD 0 := s.d_getLsbD_of_lt (by decide)
  refine ⟨(congrArg BitVec.toNat (State.d_setD s _)).trans hr, ?_⟩
  simp only [shiftRightD, CCR.withShift, hn, hc, Bool.false_xor, ← hr, ← decide_eq_zero_toNat]
  rfl

/-- ASLD doubles D modulo 2^16; bit 15 is shifted out and bit 14 becomes N (R112). -/
theorem shiftLeftD_spec (s : State) :
    (shiftLeftD s).d.toNat = (s.d.toNat * 2) % 65536 ∧
      (shiftLeftD s).ccr = { s.ccr with n := s.a.getLsbD 6, z := decide ((s.d.toNat * 2) % 65536 = 0),
                                        v := s.a.getLsbD 6 ^^ s.a.getLsbD 7, c := s.a.getLsbD 7 } := by
  have hr : (s.d <<< 1).toNat = (s.d.toNat * 2) % 65536 := by simp [Nat.shiftLeft_eq]
  have hn : (s.d <<< 1).msb = s.a.getLsbD 6 := by
    simpa [BitVec.msb_shiftLeft, BitVec.getMsbD_eq_getLsbD] using s.d_getLsbD_add 6
  have hc : s.d.msb = s.a.getLsbD 7 := by
    simpa [BitVec.msb_eq_getLsbD_last] using s.d_getLsbD_add 7
  refine ⟨(congrArg BitVec.toNat (State.d_setD s _)).trans hr, ?_⟩
  simp only [shiftLeftD, CCR.withShift, hn, hc, ← hr, ← decide_eq_zero_toNat]
  rfl

/-- Settles O16: what the shifts do to D and CCR; they write no other field. -/
theorem shiftsOfD : Obligations.ShiftsOfD := by
  unfold Obligations.ShiftsOfD
  refine ⟨fun s => ⟨⟨shiftRightD s, rfl, ?_⟩, ⟨shiftLeftD s, rfl, ?_⟩⟩, hasRow_of_none rfl,
    hasRow_of_none rfl⟩
  · obtain ⟨hd, hccr⟩ := shiftRightD_spec s
    exact ⟨hd, by rw [← hccr]; rfl⟩
  · obtain ⟨hd, hccr⟩ := shiftLeftD_spec s
    exact ⟨hd, by rw [← hccr]; rfl⟩

/-! ### Decimal adjust -/

/-- Whether DAA adds $06 (R127). -/
def adjustsLow (a : Byte) (h : Bool) : Bool := h || decide (9 < a.toNat % 16)

/-- Whether DAA adds $60 (R127). -/
def adjustsHigh (a : Byte) (c : Bool) : Bool :=
  c || decide (9 < a.toNat / 16) || (decide (9 ≤ a.toNat / 16) && decide (9 < a.toNat % 16))

/-- The correction is the sum of the two parts: they have no bit in common (R127). -/
theorem daaCorrection_eq (a : Byte) (h c : Bool) :
    daaCorrection a h c = BitVec.ofNat 8
      ((if adjustsLow a h then 6 else 0) + (if adjustsHigh a c then 96 else 0)) := by
  have hor : ∀ low high : Bool, ((if low then 0x06 else 0) ||| (if high then 0x60 else 0) : Byte) =
      BitVec.ofNat 8 ((if low then 6 else 0) + (if high then 96 else 0)) := by decide
  exact hor (adjustsLow a h) (adjustsHigh a c)

/-- Bits 6 and 5 of the correction say whether $60 is part of it (R127). -/
theorem daaCorrection_high (a : Byte) (h c : Bool) :
    decide ((daaCorrection a h c).extractLsb' 5 2 ≠ 0) = adjustsHigh a c := by
  rw [daaCorrection_eq]
  generalize adjustsLow a h = low, adjustsHigh a c = high
  revert low high
  decide

/-- DAA over numbers: the corrected A, N and Z of it, and C where $60 was added (R127). -/
theorem daaOp_eq (free : Bool) (a : Byte) (f : CCR) :
    let r : Byte := BitVec.ofNat 8
      (a.toNat + (if adjustsLow a f.h then 6 else 0) + (if adjustsHigh a f.c then 96 else 0))
    daaOp free a f =
      (r, { f with n := r.getLsbD 7, z := decide (r = 0), v := free, c := adjustsHigh a f.c }) := by
  have hr : a + daaCorrection a f.h f.c = BitVec.ofNat 8
      (a.toNat + (if adjustsLow a f.h then 6 else 0) + (if adjustsHigh a f.c then 96 else 0)) := by
    rw [daaCorrection_eq, Nat.add_assoc, BitVec.ofNat_add a.toNat, BitVec.ofNat_toNat,
      BitVec.setWidth_eq]
  simp only [daaOp, hr, daaCorrection_high]
  rfl

/-- DAA adjusts A and writes flags; the free value of V is drawn (R127, log 9, log 18). -/
theorem exec_daa (s : State) :
    exec .daa s = .next { s with a := (daaOp (Config.freeBit s.draws) s.a s.ccr).1,
                                 ccr := (daaOp (Config.freeBit s.draws) s.a s.ccr).2,
                                 draws := s.draws + 1 } := rfl

/-- Settles O20: V is the value drawn. -/
theorem decimalAdjust : Obligations.DecimalAdjust := by
  unfold Obligations.DecimalAdjust
  refine ⟨fun s => ⟨Config.freeBit s.draws, s.draws + 1, ?_⟩, hasRow_of_none rfl⟩
  rw [exec_daa, daaOp_eq]
  rfl

/-- The two decimal digits of a number below 100, one a nibble (R127). -/
def packedBcd (n : Nat) : Nat := n / 10 * 16 + n % 10

theorem toNat_ofNat_packedBcd {n : Nat} (h : n < 100) :
    (BitVec.ofNat 8 (packedBcd n)).toNat = packedBcd n := by
  rw [BitVec.toNat_ofNat, packedBcd]
  omega

/-- The sum of two packed bytes with carry, by tens and ones. -/
theorem packedBcd_add (p q c : Nat) :
    packedBcd p + packedBcd q + c = 16 * (p / 10 + q / 10) + (p % 10 + q % 10 + c) := by
  unfold packedBcd
  omega

/-- For a sum of packed bytes with tens `t` and ones `o`, the test DAA makes on the byte and its carry says
whether the decimal sum reaches 100 (R127). -/
theorem highTest_iff {t o : Nat} (ht : t ≤ 18) (ho : o ≤ 19) :
    256 ≤ 16 * t + o ∨ 9 < (16 * t + o) % 256 / 16 ∨
        9 ≤ (16 * t + o) % 256 / 16 ∧ 9 < (16 * t + o) % 256 % 16 ↔
      100 ≤ 10 * t + o := by
  omega

/-- The two adjustments turn a sum of packed bytes into the packed sum modulo 100 (R127). -/
theorem adjusted_eq_packedBcd {t o : Nat} (ht : t ≤ 18) (ho : o ≤ 19) :
    ((16 * t + o) % 256 + (if 10 ≤ o then 6 else 0) + (if 100 ≤ 10 * t + o then 96 else 0)) % 256 =
      packedBcd ((10 * t + o) % 100) := by
  have hmod : (10 * t + o) % 100 = if 100 ≤ 10 * t + o then 10 * t + o - 100 else 10 * t + o := by
    split <;> omega
  rw [hmod, Nat.add_assoc, Nat.mod_add_mod, packedBcd]
  split <;> split <;> omega

theorem add8_toNat (a m : Byte) (c : Bool) : (add8 a m c).r.toNat = (a.toNat + m.toNat + c.toNat) % 256 :=
  BitVec.toNat_ofNat _ 8

theorem add8_c (a m : Byte) (c : Bool) : (add8 a m c).c = decide (256 ≤ a.toNat + m.toNat + c.toNat) :=
  testBit_top (toNat_add_add_lt a m c)

/-- After the addition of packed bytes, DAA adds $06 where the ones carry (R127). -/
theorem adjustsLow_add8 {a m : Byte} {p q : Nat} (c : Bool) (ha : a.toNat = packedBcd p)
    (hm : m.toNat = packedBcd q) :
    adjustsLow (add8 a m c).r (halfCarry a m c) = decide (10 ≤ p % 10 + q % 10 + c.toNat) := by
  rw [adjustsLow, halfCarry, add8_toNat, ha, hm, packedBcd_add, packedBcd, packedBcd, ← Bool.decide_or,
    decide_eq_decide]
  omega

/-- After the addition of packed bytes, DAA adds $60 where the decimal sum reaches 100 (R127). -/
theorem adjustsHigh_add8 {a m : Byte} {p q : Nat} (c : Bool) (ha : a.toNat = packedBcd p)
    (hm : m.toNat = packedBcd q) (hp : p < 100) (hq : q < 100) :
    adjustsHigh (add8 a m c).r (add8 a m c).c = decide (100 ≤ p + q + c.toNat) := by
  have hc := c.toNat_lt
  rw [adjustsHigh, add8_c, add8_toNat, ha, hm, packedBcd_add, ← Bool.decide_and, Bool.or_assoc,
    ← Bool.decide_or, ← Bool.decide_or, decide_eq_decide, highTest_iff (by omega) (by omega)]
  omega

/-- DAA after ADC of packed bytes gives the packed sum modulo 100 and its carry (R127, R219). -/
theorem daaOp_adcOp {a m : Byte} {p q : Nat} (free : Bool) (f : CCR) (ha : a.toNat = packedBcd p)
    (hm : m.toNat = packedBcd q) (hp : p < 100) (hq : q < 100) :
    let g := daaOp free (adcOp a m f).1 (adcOp a m f).2
    g.1.toNat = packedBcd ((p + q + f.c.toNat) % 100) ∧ g.2.c = decide (100 ≤ p + q + f.c.toNat) := by
  have hc := f.c.toNat_lt
  have hlow := adjustsLow_add8 f.c ha hm
  have hhigh := adjustsHigh_add8 f.c ha hm hp hq
  have hsum : p + q + f.c.toNat = 10 * (p / 10 + q / 10) + (p % 10 + q % 10 + f.c.toNat) := by omega
  simp only [daaOp_eq, adcOp, CCR.withHNZVC, hlow, hhigh, decide_eq_true_eq, BitVec.toNat_ofNat, add8_toNat,
    ha, hm, packedBcd_add, and_true, Nat.reducePow]
  rw [hsum]
  exact adjusted_eq_packedBcd (by omega) (by omega)

/-- Settles O21: `daaOp_adcOp`, of which the statement writes the digits out. -/
theorem decimalAdjustGivesTheBcdSum : Obligations.DecimalAdjustGivesTheBcdSum := by
  unfold Obligations.DecimalAdjustGivesTheBcdSum
  intro s t u v p q hp hq ha hv hadc hdaa
  have hadca : exec (.adcaImm v) s = .next (accOp adcOp .a (.imm v) s) := rfl
  cases hadca.symm.trans hadc
  cases (exec_daa _).symm.trans hdaa
  obtain ⟨hr, hcarry⟩ := daaOp_adcOp (Config.freeBit s.draws) s.ccr (ha ▸ toNat_ofNat_packedBcd hp)
    (hv ▸ toNat_ofNat_packedBcd hq) hp hq
  refine ⟨hr.trans ?_, (Bool.eq_iff_iff.mp hcarry).trans decide_eq_true_iff⟩
  rw [packedBcd, Nat.mod_mod_of_dvd _ (by decide : 10 ∣ 100)]

/-! ### Branches after a subtraction -/

/-- The condition of a branch on the condition bits (R131 to R146). -/
def branchTaken (k : Branch) (f : CCR) : Bool :=
  match k with
  | .bra => true
  | .brn => false
  | .bhi => !(f.c || f.z)
  | .bls => f.c || f.z
  | .bcc => !f.c
  | .bcs => f.c
  | .bne => !f.z
  | .beq => f.z
  | .bvc => !f.v
  | .bvs => f.v
  | .bpl => !f.n
  | .bmi => f.n
  | .bge => !(f.n ^^ f.v)
  | .blt => f.n ^^ f.v
  | .bgt => !(f.z || (f.n ^^ f.v))
  | .ble => f.z || (f.n ^^ f.v)

/-- Every branch is taken by its condition and does nothing else (R130). -/
theorem exec_branchForm (k : Branch) (rel : Byte) (s : State) :
    exec (branchForm k rel) s = .next (branchIf (branchTaken k s.ccr) rel s) := by
  cases k <;> rfl

/-- A branch whose condition says `p` goes to its target where `p` holds and falls through elsewhere (R130). -/
theorem exec_branchForm_of_iff {k : Branch} {s : State} {p : Prop} (rel : Byte)
    (h : branchTaken k s.ccr = true ↔ p) :
    (p → exec (branchForm k rel) s = .next { s with pc := s.pc + rel.signExtend 16 }) ∧
      (¬ p → exec (branchForm k rel) s = .next s) := by
  rw [exec_branchForm]
  refine ⟨fun hp => ?_, fun hp => ?_⟩
  · rw [h.mpr hp]
    rfl
  · rw [Bool.eq_false_iff.mpr (mt h.mp hp)]
    rfl

/-- N xor V of a difference with borrow is the sign of the exact signed difference: V says that N is wrong
(R11, R31, R33). -/
theorem msb_xor_subOverflow {w : Nat} (a b : BitVec (w + 1)) (bin : Bool) :
    let r := BitVec.ofInt (w + 1) ((a.toNat : Int) - b.toNat - bin.toNat)
    (r.msb ^^ subOverflow a.msb b.msb r.msb) = decide (a.toInt - b.toInt - bin.toNat < 0) := by
  intro r
  have ha := toInt_range a
  have hb := toInt_range b
  have hc := bin.toNat_lt
  have hpow : (2 : Int) ^ (w + 1) = 2 * 2 ^ w := by ring
  have hr := toInt_range r
  have hwrap := toInt_ofInt_wrap (w := w) (t := a.toInt - b.toInt - bin.toNat) (by omega) (by omega)
  rw [← ofInt_sub_sub_eq_ofInt, show BitVec.ofInt (w + 1) _ = r from rfl] at hwrap
  rw [Bool.eq_iff_iff, Bool.xor_iff_ne, ne_eq, Bool.eq_iff_iff, subOverflow_iff, BitVec.msb_eq_toInt,
    decide_eq_true_eq, decide_eq_true_eq]
  omega

section Subtraction
variable (a m : Byte) (f : CCR)

/-- C after a subtraction: lower as unsigned numbers (R11, R34). -/
theorem subOp_c : (subOp a m f).2.c = decide (a.toNat < m.toNat) := by
  rw [subOp, CCR.withNZVC, sub8, decide_eq_decide]
  simp only [Bool.toNat_false]
  omega

/-- Z after a subtraction: equal (R11, R32). -/
theorem subOp_z : (subOp a m f).2.z = decide (a = m) := by
  have hr : (sub8 a m false).r = a - m := by simpa [sub8] using ofInt_sub_sub a m false
  have hz : (subOp a m f).2.z = decide ((sub8 a m false).r = 0) := rfl
  rw [hz, hr, decide_eq_decide]
  exact sub_eq_zero

/-- N xor V after a subtraction: lower as signed numbers, since V says that N is wrong (R11, R31, R33). -/
theorem subOp_n_xor_v : ((subOp a m f).2.n ^^ (subOp a m f).2.v) = decide (a.toInt < m.toInt) := by
  refine (msb_xor_subOverflow (w := 7) a m false).trans ?_
  rw [Bool.toNat_false, Nat.cast_zero, Int.sub_zero, decide_eq_decide]
  exact sub_neg

/-- What the ten comparing branches find after a subtraction (R133 to R138, R143 to R146). -/
theorem branchTaken_subOp :
    let g := (subOp a m f).2
    (branchTaken .bhi g = true ↔ m.toNat < a.toNat) ∧ (branchTaken .bls g = true ↔ a.toNat ≤ m.toNat) ∧
    (branchTaken .bcc g = true ↔ m.toNat ≤ a.toNat) ∧ (branchTaken .bcs g = true ↔ a.toNat < m.toNat) ∧
    (branchTaken .bne g = true ↔ a ≠ m) ∧ (branchTaken .beq g = true ↔ a = m) ∧
    (branchTaken .bge g = true ↔ m.toInt ≤ a.toInt) ∧ (branchTaken .blt g = true ↔ a.toInt < m.toInt) ∧
    (branchTaken .bgt g = true ↔ m.toInt < a.toInt) ∧ (branchTaken .ble g = true ↔ a.toInt ≤ m.toInt) := by
  rcases eq_or_ne a m with rfl | hne
  · simp [branchTaken, subOp_c, subOp_z, subOp_n_xor_v]
  · have hnat : a.toNat ≠ m.toNat := mt BitVec.eq_of_toNat_eq hne
    have hint : a.toInt ≠ m.toInt := mt BitVec.eq_of_toInt_eq hne
    simp only [branchTaken, subOp_c, subOp_z, subOp_n_xor_v, hne, decide_false, Bool.or_false,
      Bool.false_or, Bool.not_false, Bool.not_eq_true', decide_eq_true_eq, decide_eq_false_iff_not,
      Bool.false_eq_true, ne_eq, not_false_eq_true, true_and]
    omega

end Subtraction

/-- CMPA and CMPB in every mode are one operation (R211, R231). -/
theorem exec_cmpForm (r : Acc) (o : Operand8) (s : State) :
    exec (cmpForm r o) s = .next (accTest subOp r o s) := by
  rcases r with _ | _ <;> rcases o with _ | _ | _ | _ <;> rfl

/-- SUBA and SUBB in every mode are one operation (R210, R230). -/
theorem exec_subForm (r : Acc) (o : Operand8) (s : State) :
    exec (subForm r o) s = .next (accOp subOp r o s) := by
  rcases r with _ | _ <;> rcases o with _ | _ | _ | _ <;> rfl

/-- Settles O23: each of the six leaves the flags of the subtraction, and the branches read those. -/
theorem branchesAfterACompare : Obligations.BranchesAfterACompare := by
  unfold Obligations.BranchesAfterACompare
  intro rel s t goes compared
  have hcompared : ∀ a m f, t.ccr = (subOp a m f).2 → compared a m := by
    intro a m f hf
    obtain ⟨hhi, hls, hcc, hcs, hne, heq, hge, hlt, hgt, hle⟩ := hf ▸ branchTaken_subOp a m f
    exact ⟨exec_branchForm_of_iff rel hhi, exec_branchForm_of_iff rel hls,
      exec_branchForm_of_iff rel hcc, exec_branchForm_of_iff rel hcs,
      exec_branchForm_of_iff rel hne, exec_branchForm_of_iff rel heq,
      exec_branchForm_of_iff rel hge, exec_branchForm_of_iff rel hlt,
      exec_branchForm_of_iff rel hgt, exec_branchForm_of_iff rel hle⟩
  refine ⟨fun r o h => hcompared _ _ s.ccr ?_, fun h => hcompared _ _ s.ccr ?_⟩
  · rw [exec_cmpForm, exec_subForm] at h
    rcases h with h | h <;> cases h
    · exact accTest_ccr subOp r o s
    · exact accOp_ccr subOp r o s
  · rcases h with h | h <;> cases h
    · exact accTest_ccr subOp .a (.imm s.b) s
    · exact accOp_ccr subOp .a (.imm s.b) s

end Sys2Proof.Machine
end

section
/-! The relative branches (41_branches_2x.md R130 to R146): where they go, and their rows of the table. -/

namespace Sys2Proof.Machine

/-- An instruction with one operand byte has the row TABLE 8 gives for its constructor, whatever the byte (R90). -/
theorem hasRow_of_byte {op : Byte} {mnemonic : String} {mode : Mode} {cycles : Nat} {g : Byte → Instr}
    (hrow : opcodeRow op = some ⟨mnemonic, mode, cycles, .byte g⟩) (b : Byte) :
    HasRow (g b) op mnemonic mode cycles 2 :=
  hasRow_of_makes hrow (.byte g b)

/-- The target of a relative branch is the exact sum of PC and the signed offset, taken modulo 2^16 (R130). -/
theorem relTarget_eq_ofInt (rel : Byte) (s : State) :
    relTarget rel s = BitVec.ofInt 16 (s.pc.toNat + rel.toInt) := by
  have hpc : BitVec.ofInt 16 (s.pc.toNat : Int) = s.pc := by simp
  have hrel : BitVec.ofInt 16 rel.toInt = sext16 rel := rfl
  rw [BitVec.ofInt_add, hpc, hrel, relTarget]

/-- A branch writes PC alone: the target where it is taken, PC as it was elsewhere (R130). -/
theorem branchIf_eq (cond : Bool) (rel : Byte) (s : State) :
    branchIf cond rel s =
      { s with pc := if cond then BitVec.ofInt 16 (s.pc.toNat + rel.toInt) else s.pc } := by
  rw [branchIf, relTarget_eq_ofInt]

/-- Settles O22: each branch is `branchIf` of its condition, of which the statement writes the cases out, and its
row is the one of its constructor. -/
theorem relativeBranches : Obligations.RelativeBranches := by
  unfold Obligations.RelativeBranches
  refine ⟨fun s rel k => ?_, fun rel => ?_⟩
  · have hexec := exec_branchForm k rel s
    rw [branchIf_eq] at hexec
    exact hexec
  · exact ⟨hasRow_of_byte rfl rel, hasRow_of_byte rfl rel, hasRow_of_byte rfl rel, hasRow_of_byte rfl rel,
      hasRow_of_byte rfl rel, hasRow_of_byte rfl rel, hasRow_of_byte rfl rel, hasRow_of_byte rfl rel,
      hasRow_of_byte rfl rel, hasRow_of_byte rfl rel, hasRow_of_byte rfl rel, hasRow_of_byte rfl rel,
      hasRow_of_byte rfl rel, hasRow_of_byte rfl rel, hasRow_of_byte rfl rel, hasRow_of_byte rfl rel⟩

end Sys2Proof.Machine
end

section
/-! The stack, index, multiply and interrupt instructions (42_stack_index_3x.md R150 to R165), and that a return
undoes the entry it belongs to (60_exceptions.md R255 to R261, 44_acca_8x_bx.md R223, R224). -/

namespace Sys2Proof.Machine

/-! ### Stores at distinct addresses -/

/-- Stores at distinct addresses of storage are all read back. -/
theorem storeAll_read_of_mem {p : Platform} {ws : List (Word × Byte)} {m : Memory} {addr : Word} {v : Byte}
    (hm : m.wf = true) (hd : (ws.map Prod.fst).Nodup) (hk : ∀ a ∈ ws.map Prod.fst, kindAt p a = .storage)
    (h : (addr, v) ∈ ws) : (storeAll p ws m).read addr.toNat = v := by
  induction ws generalizing m with
  | nil => cases h
  | cons w rest ih =>
    obtain ⟨hw, hrest⟩ := List.nodup_cons.mp hd
    have hkw : kindAt p w.1 = .storage := hk w.1 List.mem_cons_self
    rw [storeAll, if_pos hkw]
    rcases List.mem_cons.mp h with rfl | hmem
    · rw [storeAll_read_other p rest _ hw]
      exact Memory.read_write_same hm addr.toNat v
    · exact ih (Memory.wf_write hm w.1 w.2) hrest (fun a ha => hk a (List.mem_cons_of_mem _ ha)) hmem

/-- Pushes reach distinct addresses, as long as they are no more than the addresses there are. -/
theorem stackBelow_nodup (sp : Word) {n : Nat} (hn : n ≤ 65536) : (stackBelow sp n).Nodup := by
  refine List.Nodup.map_on (fun i hi j hj h => ?_) List.nodup_range
  have hij : BitVec.ofNat 16 i = BitVec.ofNat 16 j := sub_right_injective h
  rw [List.mem_range] at hi hj
  simpa [Nat.mod_eq_of_lt (hi.trans_le hn), Nat.mod_eq_of_lt (hj.trans_le hn)] using
    congrArg BitVec.toNat hij

theorem kindAt_of_mem_stackBelow {p : Platform} {sp addr : Word} {n : Nat} (h : StackInStorage p sp n)
    (ha : addr ∈ stackBelow sp n) : kindAt p addr = .storage := by
  obtain ⟨k, hk, rfl⟩ := List.mem_map.mp ha
  exact h k (List.mem_range.mp hk)

/-- Bytes stored on the stack's `n` addresses, all storage, are all read back. -/
theorem storeAll_read_of_stackBelow {s : State} {n : Nat} {ws : List (Word × Byte)} {addr : Word} {v : Byte}
    (hst : StackInStorage s.platform s.sp n) (hm : MemoryCanonical s) (hn : n ≤ 65536)
    (hws : ws.map Prod.fst = stackBelow s.sp n) (h : (addr, v) ∈ ws) :
    (storeAll s.platform ws s.mem).read addr.toNat = v :=
  storeAll_read_of_mem hm (hws ▸ stackBelow_nodup s.sp hn)
    (fun _ ha => kindAt_of_mem_stackBelow hst (hws ▸ ha)) h

/-- A word pushed on storage stands high byte lower (R9, R52). -/
theorem push16_read {s : State} (v : Word) (hst : StackInStorage s.platform s.sp 2) (hm : MemoryCanonical s) :
    (push16 v s).mem.read s.sp.toNat = loByte v ∧ (push16 v s).mem.read (s.sp - 1).toNat = hiByte v := by
  have hread {addr : Word} {b : Byte} :=
    storeAll_read_of_stackBelow (addr := addr) (v := b) hst hm (by decide)
      (ws := [(s.sp, loByte v), (s.sp - 1, hiByte v)]) (stackBelow_two s.sp).symm
  rw [push16_storeAll]
  exact ⟨hread (by simp), hread (by simp)⟩

/-- The seven bytes pushed on storage are the frame (R255). -/
theorem stackAll_frameAt {s : State} (hst : StackInStorage s.platform s.sp 7) (hm : MemoryCanonical s) :
    FrameAt (stackAll s).mem s.sp s := by
  have hread {addr : Word} {b : Byte} :=
    storeAll_read_of_stackBelow (addr := addr) (v := b) hst hm (by decide)
      (ws := [(s.sp, loByte s.pc), (s.sp - 1, hiByte s.pc), (s.sp - 2, loByte s.x), (s.sp - 3, hiByte s.x),
        (s.sp - 4, s.a), (s.sp - 5, s.b), (s.sp - 6, s.ccr.toByte)]) (stackBelow_seven s.sp).symm
  rw [stackAll_mem]
  exact ⟨hread (by simp), hread (by simp), hread (by simp), hread (by simp), hread (by simp),
    hread (by simp), hread (by simp)⟩

/-- Whether memory holds the frame depends on the seven stacked bytes alone. -/
theorem FrameAt.of_same_bytes {m n : Memory} {sp : Word} {s : State} (hf : FrameAt m sp s)
    (h : ∀ addr : Word, addr ∈ stackBelow sp 7 → n.read addr.toNat = m.read addr.toNat) :
    FrameAt n sp s := by
  rw [stackBelow_seven] at h
  obtain ⟨h0, h1, h2, h3, h4, h5, h6⟩ := hf
  exact ⟨(h _ (by simp)).trans h0, (h _ (by simp)).trans h1, (h _ (by simp)).trans h2,
    (h _ (by simp)).trans h3, (h _ (by simp)).trans h4, (h _ (by simp)).trans h5, (h _ (by simp)).trans h6⟩

/-! ### What the pulls and the return load -/

theorem word_add_one_add_one (w : Word) : w + 1 + 1 = w + 2 := add_assoc w 1 1

/-- `pull16` as its two reads, the high byte from the lower address (R9). -/
theorem pull16_eq (s : State) :
    pull16 s =
      (join (pull8 s).1 (memRead8 (s.sp + 2) { (pull8 s).2 with sp := s.sp + 2 }).1,
       (memRead8 (s.sp + 2) { (pull8 s).2 with sp := s.sp + 2 }).2) := by
  rw [← word_add_one_add_one]
  rfl

/-- `push16` as its two stores, the low byte first (R9). -/
theorem push16_eq (v : Word) (s : State) :
    push16 v s =
      { memWrite8 (s.sp - 1) (hiByte v) (memWrite8 s.sp (loByte v) s) with sp := s.sp - 2 } := by
  have hsp : s.sp - 1 - 1 = s.sp - 2 := sub_sub s.sp 1 1
  rw [← hsp]
  rfl

/-- The `n` addresses above SP, from which `n` pulls read, hold bytes. -/
def StackHoldsBytes (s : State) (n : Nat) : Prop :=
  ∀ k : Nat, 1 ≤ k → k ≤ n → (kindAt s.platform (s.sp + BitVec.ofNat 16 k)).holdsByte = true

/-- What has been pushed on storage can be pulled. -/
theorem stackHoldsBytes_of_storage {p : Platform} {sp : Word} {n : Nat} {u : State}
    (hst : StackInStorage p sp n) (hp : u.platform = p) (hsp : u.sp = sp - BitVec.ofNat 16 n) :
    StackHoldsBytes u n := by
  intro k hk hkn
  have haddr : u.sp + BitVec.ofNat 16 k = sp - BitVec.ofNat 16 (n - k) := by
    have hn : BitVec.ofNat 16 n = BitVec.ofNat 16 (n - k) + BitVec.ofNat 16 k := by
      rw [← BitVec.ofNat_add, Nat.sub_add_cancel hkn]
    rw [hsp, hn, sub_add_eq_sub_sub, sub_add_cancel]
  rw [haddr, hp]
  exact holdsByte_of_storage (hst (n - k) (by omega))

/-- A pull from an address that holds a byte returns what memory holds there; one byte fewer is left (R9, R60). -/
theorem StackHoldsBytes.pull8_value {s : State} {n : Nat} (h : StackHoldsBytes s (n + 1)) :
    (pull8 s).1 = s.mem.read (s.sp + 1).toNat ∧ StackHoldsBytes (pull8 s).2 n := by
  refine ⟨readValue_of_holds (s := { s with sp := s.sp + 1 }) (h 1 le_rfl (by omega)), fun k hk hkn => ?_⟩
  rw [pull8_platform, pull8_sp, BitVec.ofNat_eq_ofNat, pc_add_one_add]
  exact h (k + 1) (by omega) (by omega)

/-- A 16-bit pull joins the bytes memory holds there, the high byte first (R9, R60). -/
theorem StackHoldsBytes.pull16_value {s : State} {n : Nat} (h : StackHoldsBytes s (n + 2)) :
    (pull16 s).1 = join (s.mem.read (s.sp + 1).toNat) (s.mem.read (s.sp + 2).toNat) ∧
      StackHoldsBytes (pull16 s).2 n := by
  obtain ⟨hhigh, h⟩ := h.pull8_value
  obtain ⟨hlow, h⟩ := h.pull8_value
  rw [pull8_mem, pull8_sp, word_add_one_add_one] at hlow
  exact ⟨congrArg₂ join hhigh hlow, h⟩

/-- The return raises SP by seven and keeps all it does not pull (R161). -/
theorem returnFromException_frame (s : State) :
    (returnFromException s).sp = s.sp + 7 ∧ (returnFromException s).mem = s.mem ∧
      (returnFromException s).waiting = s.waiting ∧ (returnFromException s).platform = s.platform ∧
      (returnFromException s).inputs = s.inputs := by
  refine ⟨?_, ?_, ?_, ?_, ?_⟩
  · simp only [returnFromException, pull16_sp, pull8_sp]
    bv_omega
  all_goals simp [returnFromException]

/-- Where the seven addresses above SP hold bytes, the return loads the registers from them (R161, R255). -/
theorem returnFromException_loads {s : State} (h : StackHoldsBytes s 7) :
    (returnFromException s).ccr = CCR.ofByte (s.mem.read (s.sp + 1).toNat) ∧
      (returnFromException s).b = s.mem.read (s.sp + 2).toNat ∧
      (returnFromException s).a = s.mem.read (s.sp + 3).toNat ∧
      (returnFromException s).x = join (s.mem.read (s.sp + 4).toNat) (s.mem.read (s.sp + 5).toNat) ∧
      (returnFromException s).pc = join (s.mem.read (s.sp + 6).toNat) (s.mem.read (s.sp + 7).toNat) := by
  obtain ⟨hccr, h⟩ := h.pull8_value
  obtain ⟨hb, h⟩ := h.pull8_value
  obtain ⟨ha, h⟩ := h.pull8_value
  obtain ⟨hx, h⟩ := h.pull16_value
  obtain ⟨hpc, -⟩ := h.pull16_value
  simp only [pull8_mem, pull16_mem, pull8_sp, pull16_sp, BitVec.add_assoc, BitVec.reduceAdd,
    BitVec.ofNat_eq_ofNat] at hb ha hx hpc
  exact ⟨congrArg CCR.ofByte hccr, hb, ha, hx, hpc⟩

/-- The return from the frame of `s`, found where `s` would have pushed it, gives back its registers (R261). -/
theorem returnFromException_of_frameAt {s u : State} (h : StackHoldsBytes u 7) (hsp : u.sp = s.sp - 7)
    (hf : FrameAt u.mem s.sp s) :
    (returnFromException u).a = s.a ∧ (returnFromException u).b = s.b ∧ (returnFromException u).x = s.x ∧
      (returnFromException u).sp = s.sp ∧ (returnFromException u).pc = s.pc ∧
      (returnFromException u).ccr = s.ccr := by
  obtain ⟨hpcl, hpch, hxl, hxh, ha, hb, hccr⟩ := hf
  have e1 : u.sp + 1 = s.sp - 6 := by rw [hsp]; bv_omega
  have e2 : u.sp + 2 = s.sp - 5 := by rw [hsp]; bv_omega
  have e3 : u.sp + 3 = s.sp - 4 := by rw [hsp]; bv_omega
  have e4 : u.sp + 4 = s.sp - 3 := by rw [hsp]; bv_omega
  have e5 : u.sp + 5 = s.sp - 2 := by rw [hsp]; bv_omega
  have e6 : u.sp + 6 = s.sp - 1 := by rw [hsp]; bv_omega
  have e7 : u.sp + 7 = s.sp := by rw [hsp]; bv_omega
  obtain ⟨lccr, lb, la, lx, lpc⟩ := returnFromException_loads h
  obtain ⟨lsp, -⟩ := returnFromException_frame u
  rw [e1, hccr, CCR.ofByte_toByte] at lccr
  rw [e2, hb] at lb
  rw [e3, ha] at la
  rw [e4, e5, hxh, hxl, join_hiByte_loByte] at lx
  rw [e6, e7, hpch, hpcl, join_hiByte_loByte] at lpc
  exact ⟨la, lb, lx, lsp.trans e7, lpc, lccr⟩

/-! ### RTI, and RTI after SWI -/

/-- Settles O27: RTI is the return, whose frame and whose loads are stated above. -/
theorem returnFromInterrupt : Obligations.ReturnFromInterrupt := by
  unfold Obligations.ReturnFromInterrupt
  refine ⟨fun s => rfl, fun s => ?_, hasRow_of_none rfl⟩
  obtain ⟨hsp, hmem, hwaiting, hplatform, hinputs⟩ := returnFromException_frame s
  exact ⟨returnFromException s, rfl, hsp, hmem, hwaiting, hplatform, hinputs, returnFromException_loads⟩

/-- Settles O31: the frame SWI lays is still there when the handler ends, and the return reads it back. -/
theorem returnUndoesSoftwareInterrupt : Obligations.ReturnUndoesSoftwareInterrupt := by
  unfold Obligations.ReturnUndoesSoftwareInterrupt
  intro s t u hst hm hswi hsp hplatform hbytes
  obtain rfl : enterHandler s.platform.vecSwi (stackAll s) = t := Host.Outcome.next.inj hswi
  simp only [enterHandler_sp, stackAll_sp, enterHandler_platform, stackAll_platform, enterHandler_mem]
    at hsp hplatform hbytes
  have hframe : FrameAt u.mem s.sp s := (stackAll_frameAt hst hm).of_same_bytes hbytes
  have hholds : StackHoldsBytes u 7 := stackHoldsBytes_of_storage hst hplatform hsp
  obtain ⟨ha, hb, hx, hsp', hpc, hccr⟩ := returnFromException_of_frameAt hholds hsp hframe
  obtain ⟨-, hmem, -⟩ := returnFromException_frame u
  exact ⟨returnFromException u, rfl, ha, hb, hx, hsp', hpc, hccr, hmem⟩

/-! ### RTS after a call -/

/-- BSR, and JSR in every mode, is a call (R223, R224). -/
theorem exec_call {i : Instr} {s t : State} (hi : (∃ rel, i = .bsr rel) ∨ ∃ m, i = jsrForm m)
    (h : exec i s = .next t) : ∃ target, t = callTo target s := by
  obtain ⟨rel, rfl⟩ | ⟨m, rfl⟩ := hi
  · exact ⟨relTarget rel s, (Host.Outcome.next.inj h).symm⟩
  · refine ⟨ea m s, ?_⟩
    cases m <;> exact (Host.Outcome.next.inj h).symm

/-- Settles O32: the return address a call pushes is still there when the subroutine ends, and RTS pulls it. -/
theorem returnFromSubroutine : Obligations.ReturnFromSubroutine := by
  unfold Obligations.ReturnFromSubroutine
  intro s t u i hst hm hi hcall hsp hplatform hbytes
  obtain ⟨target, rfl⟩ := exec_call hi hcall
  have htwo : s.sp - 1 - 1 = s.sp - 2 := sub_sub s.sp 1 1
  simp only [callTo_sp, htwo, callTo_platform, callTo_mem, stackBelow_two] at hsp hplatform hbytes
  have hholds : StackHoldsBytes u 2 := stackHoldsBytes_of_storage hst hplatform hsp
  have e1 : u.sp + 1 = s.sp - 1 := by rw [hsp]; bv_omega
  have e2 : u.sp + 2 = s.sp := by rw [hsp]; bv_omega
  obtain ⟨hlow, hhigh⟩ := push16_read s.pc hst hm
  have hpc : (pull16 u).1 = s.pc := by
    rw [hholds.pull16_value.1, e1, e2, hbytes _ (by simp), hbytes _ (by simp), hhigh, hlow,
      join_hiByte_loByte]
  exact ⟨{ (pull16 u).2 with pc := (pull16 u).1 }, rfl, hpc,
    by rw [pull16_sp, word_add_one_add_one, e2], pull16_mem u, pull16_ccr u⟩

/-! ### MUL -/

/-- The unsigned product of two bytes fits in a word (R163). -/
theorem zext16_mul_toNat (a b : Byte) : (zext16 a * zext16 b).toNat = a.toNat * b.toNat := by
  have hlt : a.toNat * b.toNat < 2 ^ 16 := (Nat.mul_lt_mul'' a.isLt b.isLt).trans_eq rfl
  rw [BitVec.toNat_mul, zext16_toNat, zext16_toNat, Nat.mod_eq_of_lt hlt]

/-- MUL leaves the product in D and its bit 7 in C (R163). -/
theorem multiply_spec (s : State) :
    (multiply s).d.toNat = s.a.toNat * s.b.toNat ∧
      (multiply s).ccr = { s.ccr with c := (s.a.toNat * s.b.toNat).testBit 7 } := by
  rw [← zext16_mul_toNat]
  exact ⟨congrArg BitVec.toNat (State.d_setD s _), rfl⟩

/-! ### SP and X, pushes and pulls -/

/-- ABX adds B as an unsigned number (R160). -/
theorem add_zext16 (x : Word) (b : Byte) : x + zext16 b = BitVec.ofNat 16 (x.toNat + b.toNat) := by
  rw [← zext16_toNat b, BitVec.ofNat_add, BitVec.ofNat_toNat, BitVec.ofNat_toNat, BitVec.setWidth_eq,
    BitVec.setWidth_eq]

/-- Settles O24: each is its definition but ABX, `add_zext16`; and TXS takes off the one TSX has added. -/
theorem stackPointerAndIndex : Obligations.StackPointerAndIndex := by
  unfold Obligations.StackPointerAndIndex
  refine ⟨fun s => ⟨rfl, rfl, rfl, rfl, ?_, fun t htsx => ?_⟩, hasRow_of_none rfl, hasRow_of_none rfl,
    hasRow_of_none rfl, hasRow_of_none rfl, hasRow_of_none rfl⟩
  · rw [← add_zext16]
    rfl
  · obtain rfl : { s with x := s.sp + 1 } = t := Host.Outcome.next.inj htsx
    simp only [exec, execTxs, add_sub_cancel_right]

/-- Settles O25: `push8` is one store, and `push16_eq` writes out the two of PSHX. -/
theorem pushes : Obligations.Pushes := by
  unfold Obligations.Pushes
  exact ⟨fun s => ⟨rfl, rfl, congrArg Host.Outcome.next (push16_eq s.x s)⟩,
    hasRow_of_none rfl, hasRow_of_none rfl, hasRow_of_none rfl⟩

/-- Settles O26: `pull8` is one read, and `pull16_eq` writes out the two of PULX and RTS. -/
theorem pulls : Obligations.Pulls := by
  unfold Obligations.Pulls
  refine ⟨fun s => ⟨rfl, rfl, ?_, ?_⟩, hasRow_of_none rfl, hasRow_of_none rfl, hasRow_of_none rfl,
    hasRow_of_none rfl⟩
  · simp only [exec, execPulx, pull16_eq]
    rfl
  · simp only [exec, execRts, pull16_eq]
    rfl

/-! ### WAI and SWI -/

/-- Settles O30: the pushes are those of `stackAll`, and SWI's entry is the end of every entry, for its own vector
(R258, R259). -/
theorem waitAndSoftwareInterrupt : Obligations.WaitAndSoftwareInterrupt := by
  unfold Obligations.WaitAndSoftwareInterrupt
  exact ⟨fun s => ⟨rfl, rfl⟩, hasRow_of_none rfl, hasRow_of_none rfl⟩

end Sys2Proof.Machine

namespace Sys2Proof

/-- Settles O28: what MUL does to D and CCR; it writes no other field. Outside `Machine`, where the name is the
meaning's. -/
theorem multiply : Obligations.Multiply := by
  unfold Obligations.Multiply
  refine ⟨fun s => ⟨Machine.multiply s, rfl, ?_⟩, Machine.hasRow_of_none rfl⟩
  obtain ⟨hd, hccr⟩ := Machine.multiply_spec s
  exact ⟨hd, by rw [← hccr]; rfl⟩

end Sys2Proof
end

section
/-! The single-operand instructions on A, B and memory, JMP and the calls (43_unary_4x_7x.md R170 to R204,
44_acca_8x_bx.md R223, R224). -/

namespace Sys2Proof.Machine

/-! ### Rows of the table -/

/-- An instruction with a two-byte operand has the row TABLE 8 gives for its constructor, whatever the operand
(R90). -/
theorem hasRow_of_word {op : Byte} {mnemonic : String} {mode : Mode} {cycles : Nat} {g : Word → Instr}
    (hrow : opcodeRow op = some ⟨mnemonic, mode, cycles, .word g⟩) (w : Word) :
    HasRow (g w) op mnemonic mode cycles 3 :=
  hasRow_of_makes hrow (.word g w)

/-- The four rows of a unary operation are read off TABLE 8 at its four opcodes (R90, R170). -/
theorem unaryRows_of_table {f : UnaryForm → Instr} {onA onB onMem : String} {op : Byte}
    (ha : opcodeRow op = some ⟨onA, .inher, 2, .none (f (.acc .a))⟩)
    (hb : opcodeRow (op + 0x10) = some ⟨onB, .inher, 2, .none (f (.acc .b))⟩)
    (hi : opcodeRow (op + 0x20) = some ⟨onMem, .indxd, 6, .byte fun off => f (.ind off)⟩)
    (he : opcodeRow (op + 0x30) = some ⟨onMem, .extnd, 6, .word fun addr => f (.ext addr)⟩) :
    UnaryRows f onA onB onMem op :=
  ⟨hasRow_of_none ha, hasRow_of_none hb, hasRow_of_byte hi, hasRow_of_word he⟩

/-- The three rows of an operation in memory are read off TABLE 8 at its three opcodes (R90). -/
theorem memRows_of_table {f : MemMode → Instr} {mnemonic : String} {op : Byte} {cd : Nat}
    (hd : opcodeRow op = some ⟨mnemonic, .dir, cd, .byte fun d => f (.dir d)⟩)
    (hi : opcodeRow (op + 0x10) = some ⟨mnemonic, .indxd, cd + 1, .byte fun off => f (.ind off)⟩)
    (he : opcodeRow (op + 0x20) = some ⟨mnemonic, .extnd, cd + 1, .word fun addr => f (.ext addr)⟩) :
    MemRows f mnemonic op cd :=
  ⟨hasRow_of_byte hd, hasRow_of_byte hi, hasRow_of_word he⟩

/-! ### Which operation a form performs -/

/-- The instructions of `f` replace their operand, accumulator or memory byte, by the result of `op`, and write its
flags (R170). -/
structure Performs (f : UnaryForm → Instr) (op : Byte → CCR → Byte × CCR) : Prop where
  acc : ∀ (r : Acc) (s : State), exec (f (.acc r)) s = .next (unaryAcc op r s)
  ind : ∀ (off : Byte) (s : State), exec (f (.ind off)) s = .next (unaryMem op (.ind off) s)
  ext : ∀ (addr : Word) (s : State), exec (f (.ext addr)) s = .next (unaryMem op (.ext addr) s)

section Performs
variable {f : UnaryForm → Instr} {op : Byte → CCR → Byte × CCR}

/-- The four constructors of a unary operation, one by one. -/
theorem performs_of_constructors
    (ha : ∀ s, exec (f (.acc .a)) s = .next (unaryAcc op .a s))
    (hb : ∀ s, exec (f (.acc .b)) s = .next (unaryAcc op .b s))
    (hi : ∀ off s, exec (f (.ind off)) s = .next (unaryMem op (.ind off) s))
    (he : ∀ addr s, exec (f (.ext addr)) s = .next (unaryMem op (.ext addr) s)) : Performs f op where
  acc
    | .a, s => ha s
    | .b, s => hb s
  ind := hi
  ext := he

/-- An accumulator form writes the accumulator and CCR. -/
theorem Performs.exec_acc (h : Performs f op) {v : Byte} {g : CCR} {r : Acc} {s : State}
    (hop : op (s.acc r) s.ccr = (v, g)) : exec (f (.acc r)) s = .next { s.setAcc r v with ccr := g } := by
  rw [h.acc, unaryAcc, hop]

/-- A memory form reads the byte at EA, writes the result back to it, and writes CCR (R56). -/
theorem Performs.exec_mem (h : Performs f op) {u : UnaryForm} {m : MemMode} (hu : u.HasMode m) {v : Byte} {g : CCR}
    {s : State} (hop : op (memRead8 (ea m s) s).1 s.ccr = (v, g)) :
    exec (f u) s = .next { memWrite8 (ea m s) v (memRead8 (ea m s) s).2 with ccr := g } := by
  have hexec : exec (f u) s = .next (unaryMem op m s) := by
    obtain ⟨off, rfl, rfl⟩ | ⟨addr, rfl, rfl⟩ := hu
    · exact h.ind off s
    · exact h.ext addr s
  simp only [hexec, unaryMem, memRead8_ccr, hop]

end Performs

/-! The ten unary operations that write their operand (R171 to R204), each with its computation. -/

theorem negForm_performs : Performs negForm negOp :=
  performs_of_constructors (fun _ => rfl) (fun _ => rfl) (fun _ _ => rfl) fun _ _ => rfl
theorem comForm_performs : Performs comForm comOp :=
  performs_of_constructors (fun _ => rfl) (fun _ => rfl) (fun _ _ => rfl) fun _ _ => rfl
theorem lsrForm_performs : Performs lsrForm lsrOp :=
  performs_of_constructors (fun _ => rfl) (fun _ => rfl) (fun _ _ => rfl) fun _ _ => rfl
theorem rorForm_performs : Performs rorForm rorOp :=
  performs_of_constructors (fun _ => rfl) (fun _ => rfl) (fun _ _ => rfl) fun _ _ => rfl
theorem asrForm_performs : Performs asrForm asrOp :=
  performs_of_constructors (fun _ => rfl) (fun _ => rfl) (fun _ _ => rfl) fun _ _ => rfl
theorem aslForm_performs : Performs aslForm aslOp :=
  performs_of_constructors (fun _ => rfl) (fun _ => rfl) (fun _ _ => rfl) fun _ _ => rfl
theorem rolForm_performs : Performs rolForm rolOp :=
  performs_of_constructors (fun _ => rfl) (fun _ => rfl) (fun _ _ => rfl) fun _ _ => rfl
theorem decForm_performs : Performs decForm decOp :=
  performs_of_constructors (fun _ => rfl) (fun _ => rfl) (fun _ _ => rfl) fun _ _ => rfl
theorem incForm_performs : Performs incForm incOp :=
  performs_of_constructors (fun _ => rfl) (fun _ => rfl) (fun _ _ => rfl) fun _ _ => rfl
theorem clrForm_performs : Performs clrForm clrOp :=
  performs_of_constructors (fun _ => rfl) (fun _ => rfl) (fun _ _ => rfl) fun _ _ => rfl

/-! ### Shifts and rotates as arithmetic -/

/-- A bit set before the upper seven of a byte: half the byte, with that bit worth 128 (R174, R185, R196). -/
theorem ofBool_append_extractLsb' (b : Bool) (v : Byte) :
    (BitVec.ofBool b ++ v.extractLsb' 1 7 : Byte) = BitVec.ofNat 8 (v.toNat / 2 + 128 * b.toNat) := by
  have hv := v.isLt
  have hb := b.toNat_lt
  apply BitVec.eq_of_toNat_eq
  rw [BitVec.toNat_append, ← Nat.shiftLeft_add_eq_or_of_lt (BitVec.isLt _), Nat.shiftLeft_eq,
    BitVec.toNat_ofBool, BitVec.extractLsb'_toNat, Nat.shiftRight_eq_div_pow, BitVec.toNat_ofNat]
  omega

/-- A bit set after the lower seven of a byte: the byte doubled modulo 256, plus that bit (R177, R188, R199). -/
theorem extractLsb'_append_ofBool (b : Bool) (v : Byte) :
    (v.extractLsb' 0 7 ++ BitVec.ofBool b : Byte) = BitVec.ofNat 8 (v.toNat * 2 + b.toNat) := by
  have hb := b.toNat_lt
  apply BitVec.eq_of_toNat_eq
  rw [BitVec.toNat_append, ← Nat.shiftLeft_add_eq_or_of_lt (BitVec.isLt _), Nat.shiftLeft_eq,
    BitVec.toNat_ofBool, BitVec.extractLsb'_toNat, Nat.shiftRight_zero, BitVec.toNat_ofNat]
  omega

theorem lsrOp_eq (v : Byte) (g : CCR) :
    lsrOp v g = (BitVec.ofNat 8 (v.toNat / 2), g.withShift (BitVec.ofNat 8 (v.toNat / 2)) (v.getLsbD 0)) := by
  have hr : v >>> 1 = BitVec.ofNat 8 (v.toNat / 2) := by
    apply BitVec.eq_of_toNat_eq
    rw [BitVec.toNat_ushiftRight, Nat.shiftRight_eq_div_pow, BitVec.toNat_ofNat]
    omega
  rw [lsrOp, hr]

theorem rorOp_eq (v : Byte) (g : CCR) :
    rorOp v g = (BitVec.ofNat 8 (v.toNat / 2 + 128 * g.c.toNat),
      g.withShift (BitVec.ofNat 8 (v.toNat / 2 + 128 * g.c.toNat)) (v.getLsbD 0)) := by
  simp only [rorOp, ofBool_append_extractLsb']

/-- ASR keeps the sign: half the signed value, rounded down (R175). -/
theorem asrOp_eq (v : Byte) (g : CCR) :
    asrOp v g = (BitVec.ofInt 8 (v.toInt / 2), g.withShift (BitVec.ofInt 8 (v.toInt / 2)) (v.getLsbD 0)) := by
  have hr : (BitVec.ofBool v.msb ++ v.extractLsb' 1 7 : Byte) = BitVec.ofInt 8 (v.toInt / 2) := by
    have hsigned : v.toInt = v.toNat - 256 * v.msb.toNat := by
      rw [BitVec.toInt_eq_msb_cond]
      cases v.msb <;> simp
    have hmsb := v.msb.toNat_lt
    apply BitVec.eq_of_toNat_eq
    rw [ofBool_append_extractLsb', BitVec.toNat_ofNat, BitVec.toNat_ofInt, hsigned]
    omega
  simp only [asrOp, hr]

theorem aslOp_eq (v : Byte) (g : CCR) :
    aslOp v g = (BitVec.ofNat 8 (v.toNat * 2), g.withShift (BitVec.ofNat 8 (v.toNat * 2)) (v.getLsbD 7)) := by
  have hr : v <<< 1 = BitVec.ofNat 8 (v.toNat * 2) := by
    apply BitVec.eq_of_toNat_eq
    rw [BitVec.toNat_shiftLeft, Nat.shiftLeft_eq, BitVec.toNat_ofNat, Nat.pow_one]
  rw [aslOp, hr]
  rfl

theorem rolOp_eq (v : Byte) (g : CCR) :
    rolOp v g = (BitVec.ofNat 8 (v.toNat * 2 + g.c.toNat),
      g.withShift (BitVec.ofNat 8 (v.toNat * 2 + g.c.toNat)) (v.getLsbD 7)) := by
  simp only [rolOp, extractLsb'_append_ofBool]
  rfl

/-- Settles O34: each form performs its operation, whose result is the arithmetic one and whose flags are those every
shift writes. -/
theorem shiftsAndRotates : Obligations.ShiftsAndRotates := by
  unfold Obligations.ShiftsAndRotates
  intro good
  have hgood {f op} {res : Byte → Bool → Byte} {out : Byte → Bool} (hf : Performs f op)
      (hop : ∀ v g, op v g = (res v g.c, g.withShift (res v g.c) (out v))) : good f res out :=
    ⟨fun s r => hf.exec_acc (hop _ _), fun s u m hu => hf.exec_mem hu (hop _ _)⟩
  clear_value good
  exact ⟨hgood lsrForm_performs lsrOp_eq, hgood rorForm_performs rorOp_eq, hgood asrForm_performs asrOp_eq,
    hgood aslForm_performs aslOp_eq, hgood rolForm_performs rolOp_eq,
    unaryRows_of_table rfl rfl rfl rfl, unaryRows_of_table rfl rfl rfl rfl, unaryRows_of_table rfl rfl rfl rfl,
    unaryRows_of_table rfl rfl rfl rfl, unaryRows_of_table rfl rfl rfl rfl⟩

/-! ### NEG, COM, DEC, INC, TST and CLR -/

/-- Settles O33: NEG is the subtraction from zero and COM the complement, each in its forms. -/
theorem negateAndComplement : Obligations.NegateAndComplement := by
  unfold Obligations.NegateAndComplement
  exact ⟨fun s r => ⟨negForm_performs.exec_acc rfl, comForm_performs.exec_acc rfl⟩,
    fun s u m hu => ⟨negForm_performs.exec_mem hu rfl, comForm_performs.exec_mem hu rfl⟩,
    unaryRows_of_table rfl rfl rfl rfl, unaryRows_of_table rfl rfl rfl rfl⟩

/-- DEC gives zero exactly at $01; C, H and I are kept (R178). -/
theorem decOp_eq (v : Byte) (g : CCR) :
    decOp v g = (v - 1, { g with n := (v - 1).getLsbD 7, z := decide (v = 0x01), v := decide (v = 0x80) }) := by
  have hz : v - 1 = 0 ↔ v = 0x01 := sub_eq_zero
  simp only [decOp, CCR.withNZ_byte, hz]
  rfl

/-- INC gives zero exactly at $FF; C, H and I are kept (R179). -/
theorem incOp_eq (v : Byte) (g : CCR) :
    incOp v g = (v + 1, { g with n := (v + 1).getLsbD 7, z := decide (v = 0xFF), v := decide (v = 0x7F) }) := by
  have hz : v + 1 = 0 ↔ v = 0xFF := add_eq_zero_iff_eq_neg
  simp only [incOp, CCR.withNZ_byte, hz]
  rfl

/-- Settles O35: what DEC and INC do to a byte and CCR, each in its forms. -/
theorem incrementAndDecrement : Obligations.IncrementAndDecrement := by
  unfold Obligations.IncrementAndDecrement
  exact ⟨fun s r => ⟨decForm_performs.exec_acc (decOp_eq _ _), incForm_performs.exec_acc (incOp_eq _ _)⟩,
    fun s u m hu => ⟨decForm_performs.exec_mem hu (decOp_eq _ _), incForm_performs.exec_mem hu (incOp_eq _ _)⟩,
    unaryRows_of_table rfl rfl rfl rfl, unaryRows_of_table rfl rfl rfl rfl⟩

/-- TSTA and TSTB test their accumulator (R180, R191). -/
theorem exec_tstForm_acc (r : Acc) (s : State) : exec (tstForm (.acc r)) s = .next (testAcc tstOp r s) := by
  cases r <;> rfl

/-- Settles O36: TST is a test, which writes CCR alone; CLR performs its operation on what it reads. -/
theorem testAndClear : Obligations.TestAndClear := by
  unfold Obligations.TestAndClear
  exact ⟨fun s r => ⟨exec_tstForm_acc r s, clrForm_performs.exec_acc rfl⟩,
    fun s u m hu => ⟨exec_tstForm hu s, clrForm_performs.exec_mem hu rfl⟩,
    unaryRows_of_table rfl rfl rfl rfl, unaryRows_of_table rfl rfl rfl rfl⟩

/-! ### JMP, BSR and JSR -/

/-- A call as its two stores, the low byte of PC first, and the jump to its target (R223, R224). -/
theorem callTo_eq (target : Word) (s : State) :
    callTo target s = { memWrite8 (s.sp - 1) (hiByte s.pc) (memWrite8 s.sp (loByte s.pc) s) with
      sp := s.sp - 2, pc := target } := by
  rw [callTo, push16_eq]

/-- JSR in every mode is a call of its effective address (R224). -/
theorem exec_jsrForm (m : MemMode) (s : State) : exec (jsrForm m) s = .next (callTo (ea m s) s) := by
  cases m <;> rfl

/-- Settles O37: JMP is its definition; BSR and JSR are calls, of the branch target and of the effective address. -/
theorem jumpsAndCalls : Obligations.JumpsAndCalls := by
  unfold Obligations.JumpsAndCalls
  refine ⟨fun s off rel addr m => ⟨rfl, rfl, ?_, ?_⟩, fun off rel addr => ⟨?_, ?_, ?_⟩, ?_⟩
  · rw [← relTarget_eq_ofInt, ← callTo_eq]
    rfl
  · rw [exec_jsrForm, callTo_eq]
  · exact hasRow_of_byte rfl off
  · exact hasRow_of_word rfl addr
  · exact hasRow_of_byte rfl rel
  · exact memRows_of_table rfl rfl rfl

end Sys2Proof.Machine
end

section
/-! The accumulator and 16-bit groups, opcodes 80 to FF (44_acca_8x_bx.md R210 to R226, 45_accb_cx_fx.md R230 to
R245): each mnemonic is one operation over its modes, with its rows of the table. -/

namespace Sys2Proof.Machine

/-! ### Rows of the table -/

/-- The four rows of an operation on an accumulator are read off TABLE 8 at its four opcodes (R90). -/
theorem accRows_of_table {f : Operand8 → Instr} {mnemonic : String} {op : Byte}
    (hv : opcodeRow op = some ⟨mnemonic, .immed, 2, .byte fun v => f (.imm v)⟩)
    (hd : opcodeRow (op + 0x10) = some ⟨mnemonic, .dir, 3, .byte fun d => f (.mem (.dir d))⟩)
    (hi : opcodeRow (op + 0x20) = some ⟨mnemonic, .indxd, 4, .byte fun off => f (.mem (.ind off))⟩)
    (he : opcodeRow (op + 0x30) = some ⟨mnemonic, .extnd, 4, .word fun addr => f (.mem (.ext addr))⟩) :
    AccRows f mnemonic op :=
  ⟨hasRow_of_byte hv, hasRow_of_byte hd, hasRow_of_byte hi, hasRow_of_word he⟩

/-- The four rows of an operation with a 16-bit operand are read off TABLE 8 at its four opcodes (R90). -/
theorem wordRows_of_table {f : Operand16 → Instr} {mnemonic : String} {op : Byte} {ci : Nat}
    (hv : opcodeRow op = some ⟨mnemonic, .immed, ci, .word fun v => f (.imm v)⟩)
    (hd : opcodeRow (op + 0x10) = some ⟨mnemonic, .dir, ci + 1, .byte fun d => f (.mem (.dir d))⟩)
    (hi : opcodeRow (op + 0x20) = some ⟨mnemonic, .indxd, ci + 2, .byte fun off => f (.mem (.ind off))⟩)
    (he : opcodeRow (op + 0x30) = some ⟨mnemonic, .extnd, ci + 2, .word fun addr => f (.mem (.ext addr))⟩) :
    WordRows f mnemonic op ci :=
  ⟨hasRow_of_word hv, hasRow_of_byte hd, hasRow_of_byte hi, hasRow_of_word he⟩

/-! ### Reading an operand changes no register, so the operation sees the registers it started with -/

@[simp] theorem operand8_acc (r : Acc) (o : Operand8) (s : State) : (operand8 o s).2.acc r = s.acc r := by
  cases r with
  | a => exact operand8_a o s
  | b => exact operand8_b o s

@[simp] theorem operand16_d (o : Operand16) (s : State) : (operand16 o s).2.d = s.d := by
  rw [State.d, State.d, operand16_a, operand16_b]

/-! ### Which operation a form performs -/

/-- The instructions of `f`, in every mode, replace the accumulator by the result of `op` on it and the operand, and
write its flags. -/
def WritesAcc (f : Acc → Operand8 → Instr) (op : Byte → Byte → CCR → Byte × CCR) : Prop :=
  ∀ (r : Acc) (o : Operand8) (s : State), exec (f r o) s = .next (accOp op r o s)

/-- The instructions of `f`, in every mode, write the flags of `op` on the accumulator and the operand, and discard
the result. -/
def TestsAcc (f : Acc → Operand8 → Instr) (op : Byte → Byte → CCR → Byte × CCR) : Prop :=
  ∀ (r : Acc) (o : Operand8) (s : State), exec (f r o) s = .next (accTest op r o s)

section Forms
variable {f : Acc → Operand8 → Instr} {op : Byte → Byte → CCR → Byte × CCR} {r : Acc} {o : Operand8} {s : State}
  {v : Byte} {g : CCR}

/-- What a form that writes its accumulator answers: the result and the flags, on the state that reading the operand
leaves. -/
theorem WritesAcc.exec_eq (h : WritesAcc f op) (hop : op (s.acc r) (operand8 o s).1 s.ccr = (v, g)) :
    exec (f r o) s = .next { (operand8 o s).2.setAcc r v with ccr := g } := by
  rw [h, accOp, operand8_acc, operand8_ccr, hop]

/-- What a testing form answers: the flags alone, on the state that reading the operand leaves. -/
theorem TestsAcc.exec_eq (h : TestsAcc f op) (hop : op (s.acc r) (operand8 o s).1 s.ccr = (v, g)) :
    exec (f r o) s = .next { (operand8 o s).2 with ccr := g } := by
  rw [h, accTest, operand8_acc, operand8_ccr, hop]

end Forms

/-! The eight constructors of each form, two accumulators in four modes, run the one operation (R210 to R221, R230 to
R241). -/

theorem addForm_writesAcc : WritesAcc addForm addOp := by
  rintro (_ | _) (_ | _ | _ | _) s <;> rfl
theorem adcForm_writesAcc : WritesAcc adcForm adcOp := by
  rintro (_ | _) (_ | _ | _ | _) s <;> rfl
theorem sbcForm_writesAcc : WritesAcc sbcForm sbcOp := by
  rintro (_ | _) (_ | _ | _ | _) s <;> rfl
theorem andForm_writesAcc : WritesAcc andForm andOp := by
  rintro (_ | _) (_ | _ | _ | _) s <;> rfl
theorem bitForm_testsAcc : TestsAcc bitForm andOp := by
  rintro (_ | _) (_ | _ | _ | _) s <;> rfl
theorem eorForm_writesAcc : WritesAcc eorForm eorOp := by
  rintro (_ | _) (_ | _ | _ | _) s <;> rfl
theorem oraForm_writesAcc : WritesAcc oraForm oraOp := by
  rintro (_ | _) (_ | _ | _ | _) s <;> rfl
theorem ldaForm_writesAcc : WritesAcc ldaForm loadOp := by
  rintro (_ | _) (_ | _ | _ | _) s <;> rfl

/-- STAA and STAB in every mode store their accumulator at EA (R217, R237). -/
theorem exec_staForm (r : Acc) (m : MemMode) (s : State) :
    exec (staForm r m) s = .next (store8 (s.acc r) m s) := by
  rcases r with _ | _ <;> rcases m with _ | _ | _ <;> rfl

/-! ### The 8-bit group -/

/-- Settles O38: ADD and ADC write their accumulator with the sum, ADC's with the old C carried in. -/
theorem addToAccumulator : Obligations.AddToAccumulator := by
  unfold Obligations.AddToAccumulator
  exact ⟨fun r o s => ⟨addForm_writesAcc.exec_eq rfl, adcForm_writesAcc.exec_eq rfl⟩,
    accRows_of_table rfl rfl rfl rfl, accRows_of_table rfl rfl rfl rfl,
    accRows_of_table rfl rfl rfl rfl, accRows_of_table rfl rfl rfl rfl⟩

/-- Settles O39: SUB and SBC write their accumulator with the difference; CMP tests with the subtraction of SUB. -/
theorem subtractAndCompare : Obligations.SubtractAndCompare := by
  unfold Obligations.SubtractAndCompare
  have hsub : WritesAcc subForm subOp := exec_subForm
  have hcmp : TestsAcc cmpForm subOp := exec_cmpForm
  exact ⟨fun r o s => ⟨hsub.exec_eq rfl, sbcForm_writesAcc.exec_eq rfl, hcmp.exec_eq rfl⟩,
    accRows_of_table rfl rfl rfl rfl, accRows_of_table rfl rfl rfl rfl,
    accRows_of_table rfl rfl rfl rfl, accRows_of_table rfl rfl rfl rfl,
    accRows_of_table rfl rfl rfl rfl, accRows_of_table rfl rfl rfl rfl⟩

/-- Settles O40: AND, EOR and OR write their accumulator with the result; BIT tests with the AND. -/
theorem logicalOperations : Obligations.LogicalOperations := by
  unfold Obligations.LogicalOperations
  exact ⟨fun r o s => ⟨andForm_writesAcc.exec_eq rfl, bitForm_testsAcc.exec_eq rfl,
      eorForm_writesAcc.exec_eq rfl, oraForm_writesAcc.exec_eq rfl⟩,
    accRows_of_table rfl rfl rfl rfl, accRows_of_table rfl rfl rfl rfl,
    accRows_of_table rfl rfl rfl rfl, accRows_of_table rfl rfl rfl rfl,
    accRows_of_table rfl rfl rfl rfl, accRows_of_table rfl rfl rfl rfl,
    accRows_of_table rfl rfl rfl rfl, accRows_of_table rfl rfl rfl rfl⟩

/-- Settles O41: a load is the operation whose result is the operand; a store writes the accumulator at EA. -/
theorem loadAndStoreAccumulator : Obligations.LoadAndStoreAccumulator := by
  unfold Obligations.LoadAndStoreAccumulator
  exact ⟨fun r o m s => ⟨ldaForm_writesAcc.exec_eq rfl, exec_staForm r m s⟩,
    accRows_of_table rfl rfl rfl rfl, accRows_of_table rfl rfl rfl rfl,
    memRows_of_table rfl rfl rfl, memRows_of_table rfl rfl rfl⟩

/-! ### The 16-bit group -/

/-- SUBD in every mode (R213). -/
theorem exec_subdForm (o : Operand16) (s : State) : exec (subdForm o) s = .next
    { (operand16 o s).2.setD (sub16 s.d (operand16 o s).1).r with
      ccr := s.ccr.withNZVC (sub16 s.d (operand16 o s).1) } := by
  have hexec : exec (subdForm o) s = .next (subD o s) := by rcases o with _ | _ | _ | _ <;> rfl
  rw [hexec, subD, operand16_d, operand16_ccr]

/-- ADDD in every mode (R233). -/
theorem exec_adddForm (o : Operand16) (s : State) : exec (adddForm o) s = .next
    { (operand16 o s).2.setD (add16 s.d (operand16 o s).1).r with
      ccr := s.ccr.withNZVC (add16 s.d (operand16 o s).1) } := by
  have hexec : exec (adddForm o) s = .next (addD o s) := by rcases o with _ | _ | _ | _ <;> rfl
  rw [hexec, addD, operand16_d, operand16_ccr]

/-- CPX in every mode (R222). -/
theorem exec_cpxForm (o : Operand16) (s : State) : exec (cpxForm o) s = .next
    { (operand16 o s).2 with ccr := s.ccr.withNZVC (sub16 s.x (operand16 o s).1) } := by
  have hexec : exec (cpxForm o) s = .next (compareX o s) := by rcases o with _ | _ | _ | _ <;> rfl
  simp only [hexec, compareX, operand16_x, operand16_ccr]

/-- LDD in every mode (R242). -/
theorem exec_lddForm (o : Operand16) (s : State) : exec (lddForm o) s = .next
    { (operand16 o s).2.setD (operand16 o s).1 with ccr := s.ccr.withNZ (operand16 o s).1 } := by
  have hexec : exec (lddForm o) s = .next (loadD o s) := by rcases o with _ | _ | _ | _ <;> rfl
  rw [hexec, loadD, operand16_ccr]

/-- LDX in every mode (R244). -/
theorem exec_ldxForm (o : Operand16) (s : State) : exec (ldxForm o) s = .next
    { (operand16 o s).2 with x := (operand16 o s).1, ccr := s.ccr.withNZ (operand16 o s).1 } := by
  have hexec : exec (ldxForm o) s = .next (loadX o s) := by rcases o with _ | _ | _ | _ <;> rfl
  rw [hexec, loadX, operand16_ccr]

/-- LDS in every mode (R225). -/
theorem exec_ldsForm (o : Operand16) (s : State) : exec (ldsForm o) s = .next
    { (operand16 o s).2 with sp := (operand16 o s).1, ccr := s.ccr.withNZ (operand16 o s).1 } := by
  have hexec : exec (ldsForm o) s = .next (loadSP o s) := by rcases o with _ | _ | _ | _ <;> rfl
  rw [hexec, loadSP, operand16_ccr]

/-- STD in every mode (R243). -/
theorem exec_stdForm (m : MemMode) (s : State) : exec (stdForm m) s = .next (store16 s.d m s) := by
  cases m <;> rfl

/-- STX in every mode (R245). -/
theorem exec_stxForm (m : MemMode) (s : State) : exec (stxForm m) s = .next (store16 s.x m s) := by
  cases m <;> rfl

/-- STS in every mode (R226). -/
theorem exec_stsForm (m : MemMode) (s : State) : exec (stsForm m) s = .next (store16 s.sp m s) := by
  cases m <;> rfl

/-- Settles O42: SUBD and ADDD write D, CPX no register, all with the flags of the 16-bit operation. -/
theorem sixteenBitArithmetic : Obligations.SixteenBitArithmetic := by
  unfold Obligations.SixteenBitArithmetic
  exact ⟨fun o s => ⟨exec_subdForm o s, exec_adddForm o s, exec_cpxForm o s⟩,
    wordRows_of_table rfl rfl rfl rfl, wordRows_of_table rfl rfl rfl rfl, wordRows_of_table rfl rfl rfl rfl⟩

/-- Settles O43: a load writes its register with the operand; a store writes the high byte at EA, then the low byte
at EA + 1. -/
theorem sixteenBitLoadsAndStores : Obligations.SixteenBitLoadsAndStores := by
  unfold Obligations.SixteenBitLoadsAndStores
  exact ⟨fun o m s => ⟨exec_lddForm o s, exec_ldxForm o s, exec_ldsForm o s,
      exec_stdForm m s, exec_stxForm m s, exec_stsForm m s⟩,
    wordRows_of_table rfl rfl rfl rfl, wordRows_of_table rfl rfl rfl rfl, wordRows_of_table rfl rfl rfl rfl,
    memRows_of_table rfl rfl rfl, memRows_of_table rfl rfl rfl, memRows_of_table rfl rfl rfl⟩

end Sys2Proof.Machine
end

section
/-! Exceptions (60_exceptions.md R254 to R270): the frame, which interrupt is recognised at a boundary, its entry out
of a running program and out of the wait; and that no instruction traps (R251). -/

namespace Sys2Proof.Machine

/-! ### Instructions raise nothing -/

/-- Settles O44: `exec_next`. -/
theorem noInstructionTraps : Obligations.NoInstructionTraps := by
  unfold Obligations.NoInstructionTraps
  exact exec_next

/-! ### The frame -/

/-- A state is its twelve fields. -/
theorem State.eq_mk (s : State) :
    s = State.mk s.a s.b s.x s.sp s.pc s.ccr s.waiting s.mem s.platform s.inputs s.bus s.draws := rfl

/-- Stacking changes SP, memory and the record of accesses alone (R255). -/
theorem stackAll_frame (s : State) :
    stackAll s = { s with sp := s.sp - 7, mem := (stackAll s).mem, bus := (stackAll s).bus } := by
  rw [State.eq_mk (stackAll s), stackAll_a, stackAll_b, stackAll_x, stackAll_sp, stackAll_pc, stackAll_ccr,
    stackAll_waiting, stackAll_platform, stackAll_inputs, stackAll_draws]

/-- Settles O29: the seven stores are at distinct addresses of storage, so each is read back, and they reach no other
byte. -/
theorem stackAllLaysTheFrame : Obligations.StackAllLaysTheFrame := by
  unfold Obligations.StackAllLaysTheFrame
  intro s hst hm
  exact ⟨stackAll_frameAt hst hm, fun _ haddr => (stackAll_storesAt s).read_other haddr, stackAll_frame s,
    stackAll_bus s⟩

/-! ### What an entry does to each field -/

/-- The handler starts at the word the vector holds (R256, R258). -/
theorem enterHandler_pc_of_holds {vector : Word} {s : State}
    (hhigh : (kindAt s.platform vector).holdsByte = true)
    (hlow : (kindAt s.platform (vector + 1)).holdsByte = true) :
    (enterHandler vector s).pc = join (s.mem.read vector.toNat) (s.mem.read (vector + 1).toNat) := by
  rw [enterHandler_pc, readValue_of_holds hhigh, readValue_of_holds (s := (memRead8 vector s).2) hlow,
    memRead8_mem]

/-- The accesses of the end of an entry: the two bytes of the vector (R258). -/
theorem enterHandler_accesses (vector : Word) (s : State) :
    (enterHandler vector s).bus.map accessAddr = s.bus.map accessAddr ++ [vector, vector + 1] := by
  simp [enterHandler, memRead16, accessAddr]

/-- An entry keeps A, B, X and the inputs, and of the condition bits it writes I alone (R258). -/
theorem takeException_registers (vector : Word) (s : State) :
    (takeException vector s).a = s.a ∧ (takeException vector s).b = s.b ∧
      (takeException vector s).x = s.x ∧ (takeException vector s).ccr = { s.ccr with i := true } ∧
      (takeException vector s).inputs = s.inputs := by
  rcases takeException_cases vector s with ⟨-, h⟩ | ⟨-, h⟩ <;> simp [h]

/-- An entry lowers SP by the frame it pushes, which out of the wait is none (R258, R260). -/
theorem takeException_sp (vector : Word) (s : State) :
    (takeException vector s).sp = if s.waiting then s.sp else s.sp - 7 := by
  rcases takeException_cases vector s with ⟨hw, h⟩ | ⟨hw, h⟩ <;> simp [h, hw]

/-- An entry loads PC with the word at the vector, as memory holds it once the frame is laid (R256, R258). -/
theorem takeException_pc_of_holds {vector : Word} {s : State}
    (hhigh : (kindAt s.platform vector).holdsByte = true)
    (hlow : (kindAt s.platform (vector + 1)).holdsByte = true) :
    (takeException vector s).pc =
      join ((takeException vector s).mem.read vector.toNat)
        ((takeException vector s).mem.read (vector + 1).toNat) := by
  rcases takeException_cases vector s with ⟨-, h⟩ | ⟨-, h⟩
  · rw [h, enterHandler_mem]
    exact enterHandler_pc_of_holds hhigh hlow
  · rw [h, enterHandler_mem]
    exact enterHandler_pc_of_holds (s := { stackAll s with waiting := false })
      (by simpa using hhigh) (by simpa using hlow)

/-- Out of the wait an entry accesses the two bytes of the vector and nothing else (R260). -/
theorem takeException_accesses_of_waiting {s : State} (vector : Word) (hw : s.waiting = true) :
    (takeException vector s).bus.map accessAddr = s.bus.map accessAddr ++ [vector, vector + 1] := by
  rcases takeException_cases vector s with ⟨-, h⟩ | ⟨hrun, -⟩
  · rw [h, enterHandler_accesses]
  · simp [hw] at hrun

/-- Settles O52: out of a running program the entry pushes the frame, and writes no other byte. -/
theorem interruptEntry : Obligations.InterruptEntry := by
  unfold Obligations.InterruptEntry
  intro s vec hw hst hm
  obtain ⟨ha, hb, hx, hccr, hinputs⟩ := takeException_registers vec s
  have hsp : (takeException vec s).sp = s.sp - 7 := by simp [takeException_sp, hw]
  have hmem : (takeException vec s).mem = (stackAll s).mem := by simp [takeException_mem, hw]
  have hframe : FrameAt (takeException vec s).mem s.sp s := by
    rw [hmem]
    exact stackAll_frameAt hst hm
  have hother (addr : Word) (haddr : addr ∉ stackBelow s.sp 7) :
      (takeException vec s).mem.read addr.toNat = s.mem.read addr.toNat := by
    rw [hmem]
    exact (stackAll_storesAt s).read_other haddr
  exact ⟨hframe, hsp, hccr, ha, hb, hx, takeException_waiting vec s, takeException_platform vec s, hinputs,
    hother, takeException_pc_of_holds⟩

/-! ### Recognition at a boundary -/

/-- A source may be taken where it is asserted and I does not inhibit it (R257). -/
theorem isEligible_iff {asserted : List SourceName} {mask : Bool} {src : IntSource} :
    isEligible asserted mask src = true ↔
      src.name ∈ asserted ∧ (src.maskable = false ∨ mask = false) := by
  simp [isEligible]

/-- Where no reset is asserted and no pointer is at an address whose read has a side effect, the step is the eligible
interrupt of highest priority (R257, R270). -/
theorem step_of_eligible {s : State} {src : IntSource} (hreset : (presented s).reset = none)
    (hpointer : pointerAtEffect s = none) (hsrc : eligibleSource (presented s).asserted s = some src) :
    step s = guardBus (.next (takeException src.vector (beginStep s))) := by
  simp [step, stepBoundary, runBoundary, hreset, hpointer, hsrc]

/-- In the wait and with no eligible interrupt the step does nothing (R260). -/
theorem step_of_wait {s : State} (hreset : (presented s).reset = none)
    (hpointer : pointerAtEffect s = none) (hsrc : eligibleSource (presented s).asserted s = none)
    (hw : s.waiting = true) : step s = .next (beginStep s) := by
  have hboundary : step s = guardBus (.next (beginStep s)) := by
    simp [step, stepBoundary, runBoundary, hreset, hpointer, hsrc, hw]
  rw [hboundary, guardBus_next]
  exact ⟨rfl, rfl⟩

/-- Settles O51: the source taken is the first of the list that is eligible. -/
theorem interruptRecognition : Obligations.InterruptRecognition := by
  unfold Obligations.InterruptRecognition
  intro s asserted may
  have hmay (src : IntSource) : isEligible asserted s.ccr.i src = true ↔ may src := isEligible_iff
  refine ⟨fun src hsrc => ?_, ?_, fun src hpresented hsrc hpointer => ?_⟩
  · obtain ⟨helig, before, after, hsplit, hbefore⟩ := List.find?_eq_some_iff_append.mp hsrc
    refine ⟨(hmay src).mp helig, before, after, hsplit, fun earlier hmem hm => ?_⟩
    simpa [(hmay earlier).mpr hm] using hbefore earlier hmem
  · rw [eligibleSource, List.find?_eq_none]
    exact forall₂_congr fun src _ => not_congr (hmay src)
  · exact step_of_eligible (by rw [hpresented]) hpointer (by rw [hpresented]; exact hsrc)

/-! ### The wait -/

/-- The entry that ends the wait passes the guard where its vector has no read side effect (R57, R260). -/
theorem accessAtEffect_takeException_of_waiting {s : State} {vector : Word} (hw : s.waiting = true)
    (hhigh : hasReadEffect s.platform vector = false) (hlow : hasReadEffect s.platform (vector + 1) = false) :
    accessAtEffect (takeException vector (beginStep s)) = none := by
  rw [accessAtEffect, takeException_accesses_of_waiting vector (s := beginStep s) hw, takeException_platform]
  simpa [hhigh] using hlow

/-- Settles O53: with no eligible source the step is the wait, with one it is the entry that pushes nothing. -/
theorem waitingStep : Obligations.WaitingStep := by
  unfold Obligations.WaitingStep
  intro s hw hreset hpointer
  refine ⟨fun hnone => step_of_wait hreset hpointer hnone hw, fun src hsrc hhigh hlow => ?_⟩
  obtain ⟨ha, hb, hx, hccr, -⟩ := takeException_registers src.vector (beginStep s)
  have hstep : step s = .next (takeException src.vector (beginStep s)) := by
    rw [step_of_eligible hreset hpointer hsrc, guardBus_next]
    exact ⟨rfl, accessAtEffect_takeException_of_waiting hw hhigh hlow⟩
  have hsp : (takeException src.vector (beginStep s)).sp = s.sp := by simp [takeException_sp, hw]
  have hmem : (takeException src.vector (beginStep s)).mem = s.mem := by simp [takeException_mem, hw]
  refine ⟨_, hstep, takeException_waiting _ _, hccr, hsp, hmem, ha, hb, hx, fun hholds hholds' => ?_⟩
  rw [takeException_pc_of_holds (s := beginStep s) hholds hholds', hmem]

end Sys2Proof.Machine
end

section
/-! Reset (70_reset_and_hazards.md R280, R281), at a boundary or after the first accesses of what the step would have
done (log 8). -/

namespace Sys2Proof.Machine

/-! ### The step that a reset cuts -/

/-- Without reset the step is the boundary that a reset would cut (R281, log 8). -/
theorem step_withoutReset (s : State) :
    step (withoutReset s) = guardBus (runBoundary (presented s).asserted (beginStep s)) := rfl

/-- With reset asserted the step is the reset, guarded (R280). -/
theorem step_of_reset {s : State} {k : Nat} (hr : (presented s).reset = some k) :
    step s = guardBus (resetAfter k (presented s).asserted (beginStep s)) := by
  simp [step, stepBoundary, hr]

/-- A boundary that answers a next state has landed all the writes it records. -/
theorem landed_bus_of_runBoundary {asserted : List SourceName} {s t : State} (hbus : s.bus = [])
    (h : runBoundary asserted s = .next t) : landed s.platform t.bus s.mem = t.mem := by
  obtain ⟨-, es, hes, hmem⟩ := runBoundary_traced h
  rw [hes, hbus, List.nil_append, hmem]

/-- What has been completed when a reset cuts a step, by what the step without reset answers: nothing at the
boundary, a prefix of its accesses, or the fetch of the opcode at which it faults (R14, R281, log 8). -/
theorem completedAccesses_beginStep {s : State} {k : Nat} {es : List Access}
    (h : k = 0 ∧ es = [] ∨
      k ≠ 0 ∧ (∃ u, step (withoutReset s) = .next u ∧ es = u.bus.take k) ∨
      k ≠ 0 ∧ (∃ e, step (withoutReset s) = .fault e) ∧ es = [.read s.pc (readValue s.pc s)]) :
    completedAccesses k (presented s).asserted (beginStep s) = .ok es := by
  rw [step_withoutReset] at h
  obtain ⟨rfl, rfl⟩ | ⟨hk, u, hu, rfl⟩ | ⟨hk, ⟨e, he⟩, rfl⟩ := h
  · rfl
  · exact completedAccesses_of_next hk hu
  · have hfetch : (fetch8 (beginStep s)).2.bus = [.read s.pc (readValue s.pc s)] := rfl
    rw [completedAccesses_of_fault hk he, hfetch, List.take_of_length_le (by simp; omega)]

/-- The accesses completed when a reset cuts a boundary are at no address whose read has a side effect: where PC
points at one, the boundary is refused before it accesses anything (R57, log 11). -/
theorem completedAccesses_no_effect {k : Nat} {asserted : List SourceName} {s : State} {es : List Access}
    (hbus : s.bus = []) (h : completedAccesses k asserted s = .ok es) {addr : Word}
    (ha : addr ∈ es.map accessAddr) : hasReadEffect s.platform addr = false := by
  by_contra hne
  have he : hasReadEffect s.platform addr = true := by simpa using hne
  have hpc : addr = s.pc := completedAccesses_at_effect hbus h ha he
  obtain ⟨first, hfirst⟩ := exists_pointerAtEffect (.inl hpc) he
  have hk : k ≠ 0 := by
    rintro rfl
    cases h
    simp at ha
  have hrefused : guardBus (runBoundary asserted s) = .refused (.busActivityUnknown first) := by
    rw [runBoundary_of_pointer hfirst]
    rfl
  simp [completedAccesses_of_refused hk hrefused] at h

/-! ### Accesses carried out again -/

@[simp] theorem replay_mem (es : List Access) (s : State) :
    (replay es s).mem = landed s.platform es s.mem := by
  obtain ⟨_, h⟩ := replay_eq es s
  rw [h]

@[simp] theorem replay_bus (es : List Access) (s : State) : (replay es s).bus = s.bus ++ es := by
  obtain ⟨_, h⟩ := replay_eq es s
  rw [h]

@[simp] theorem replay_platform (es : List Access) (s : State) : (replay es s).platform = s.platform := by
  obtain ⟨_, h⟩ := replay_eq es s
  rw [h]

@[simp] theorem replay_inputs (es : List Access) (s : State) : (replay es s).inputs = s.inputs := by
  obtain ⟨_, h⟩ := replay_eq es s
  rw [h]

/-! ### The reset itself -/

/-- A 16-bit read joins two bytes, the high one first, and records them as two reads; where an address is storage or
rom, its byte is what memory holds there (R52, R57, R60). -/
theorem memRead16_bytes (addr : Word) (s : State) :
    ∃ hi lo, (memRead16 addr s).1 = join hi lo ∧
      (memRead16 addr s).2.bus = s.bus ++ [.read addr hi, .read (addr + 1) lo] ∧
      ((kindAt s.platform addr).holdsByte = true → hi = s.mem.read addr.toNat) ∧
      ((kindAt s.platform (addr + 1)).holdsByte = true → lo = s.mem.read (addr + 1).toNat) :=
  ⟨_, _, memRead16_value addr s, by simp [memRead16], readValue_of_holds,
    readValue_of_holds (s := (memRead8 addr s).2)⟩

/-- A reset loads PC with the word it reads at `VEC.reset` and records the two reads; where the vector is storage or
rom, that word is what memory holds there (R280). -/
theorem resetEvent_loads_vector (s : State) :
    ∃ hi lo, (resetEvent s).pc = join hi lo ∧
      (resetEvent s).bus =
        s.bus ++ [.read s.platform.vecReset hi, .read (s.platform.vecReset + 1) lo] ∧
      ((kindAt s.platform s.platform.vecReset).holdsByte = true →
        hi = s.mem.read s.platform.vecReset.toNat) ∧
      ((kindAt s.platform (s.platform.vecReset + 1)).holdsByte = true →
        lo = s.mem.read (s.platform.vecReset + 1).toNat) :=
  memRead16_bytes s.platform.vecReset { s with draws := s.draws + 11 }

/-- Where its vector has no read side effect, a reset after completed accesses is not refused: it answers the reset
event in the state in which they alone have been carried out (R281). -/
theorem step_of_reset_completed {s : State} {k : Nat} {es : List Access} (hr : (presented s).reset = some k)
    (hes : completedAccesses k (presented s).asserted (beginStep s) = .ok es)
    (hhigh : hasReadEffect s.platform s.platform.vecReset = false)
    (hlow : hasReadEffect s.platform (s.platform.vecReset + 1) = false) :
    step s = .next (resetEvent (replay es (beginStep s))) := by
  rw [step_of_reset hr, resetAfter, hes, guardBus_next]
  refine ⟨rfl, List.find?_eq_none.mpr fun addr haddr => ?_⟩
  simp only [resetEvent_replay_accesses, beginStep_bus, beginStep_platform, List.map_nil, List.nil_append,
    List.mem_append, List.mem_cons, List.not_mem_nil, or_false] at haddr
  rw [resetEvent_platform, replay_platform, Bool.not_eq_true]
  obtain hcompleted | rfl | rfl := haddr
  · exact completedAccesses_no_effect (s := beginStep s) rfl hes hcompleted
  · exact hhigh
  · exact hlow

/-- Settles O55: the step is the reset event after the accesses completed are carried out again, which lands their
writes; where that is all of them, memory is what the step's record says it left. -/
theorem resetAtABoundary : Obligations.ResetAtABoundary := by
  unfold Obligations.ResetAtABoundary
  intro s k hr
  refine ⟨fun es hcut hhigh hlow => ?_, fun u hu hlength => ?_, fun e hk he => ?_⟩
  · have hstep := step_of_reset_completed hr (completedAccesses_beginStep hcut) hhigh hlow
    obtain ⟨hi, lo, hpc, hbus, hhi, hlo⟩ := resetEvent_loads_vector (replay es (beginStep s))
    exact ⟨_, hi, lo, hstep, resetEvent_mask _, resetEvent_waiting _, by simp, by simp, by simp, hpc,
      by simpa using hbus, by simpa using hhi, by simpa using hlo⟩
  · obtain ⟨hboundary, -⟩ := guardBus_next.mp hu
    rw [List.take_of_length_le hlength]
    exact landed_bus_of_runBoundary (s := beginStep s) rfl hboundary
  · have hr0 : (presented s).reset ≠ some 0 := by simpa [hr] using hk
    exact step_of_boundary_refused hr0 he

end Sys2Proof.Machine
end
